-- ==== Sys2Proof/Word.lean ====
section
/-! DEFINITION. The word types of the SWK216 and their plainest arithmetic: bytes of the link, 32-bit timebase values, the
index types of the part's numbered things, and counts that saturate. -/

namespace Sys2Proof

/-- A byte of the command link (R169, R172). -/
abbrev Byte := BitVec 8

/-- A value of TB-T or TB-P, or a due value: both timebases are 32 bits and wrap modulo 2^32 (R26, R33, R7). -/
abbrev Word := BitVec 32

/-- A slot of the Action Table, 0 to 127 (R1). -/
abbrev SlotIx := Fin 128

/-- An output channel, 0 to 15 (R64). -/
abbrev ChannelIx := Fin 16

/-- A sense input, 0 to 7 (R109). -/
abbrev SenseIx := Fin 8

/-- A binding, 0 to 15 (R122). -/
abbrev BindingIx := Fin 16

/-- A count that stops at its largest value and does not wrap (00_scope.md, Saturating counters). -/
def satAdd (largest n k : Nat) : Nat := min largest (n + k)

/-- A 16-bit saturating count takes one more (R11, R84, R133). -/
def bump16 (n : Nat) : Nat := satAdd 65535 n 1

/-- A byte-wide value as the link shows it. -/
def u8 (n : Nat) : Byte := BitVec.ofNat 8 n

end Sys2Proof
end

