-- ==== Sys2Proof/Syntax.lean ====
section
/-! DEFINITION. The commands of the SWK216: one constructor of `Instr` for each row of the opcode table, with its operands,
and the names (levels, kinds, policies, causes, result codes) those operands are made of. -/

namespace Sys2Proof

/-- The level of a line or of a sampled pin. -/
inductive Level where
  | low
  | high
  deriving DecidableEq, Repr

/-- The opposite level: the active level of a channel is the opposite of its rest level (R65). -/
def Level.flip : Level → Level
  | .low => .high
  | .high => .low

/-- Direction of encoder travel (R32, R33) and of a POSITION record (R7). -/
inductive Dir where
  | fwd
  | rev
  deriving DecidableEq, Repr

/-- The timebase a record is timed against (R7). -/
inductive Domain where
  | time
  | position
  deriving DecidableEq, Repr

/-- The six action kinds (R8). -/
inductive Kind where
  | assert
  | release
  | toggle
  | pulse
  | burst
  | mark
  deriving DecidableEq, Repr

/-- What a record of a channel kind does when it falls due while the part is quiesced (R9). -/
inductive MissPolicy where
  | drop
  | hold
  deriving DecidableEq, Repr

/-- Whether an ARM writes its record PARKED or ARMED (R89). -/
inductive Start where
  | parked
  | armed
  deriving DecidableEq, Repr

/-- Whether a due item is a distance ahead of now or a due value (R89). -/
inductive DueForm where
  | offset
  | absolute
  deriving DecidableEq, Repr

/-- The level a line holds while its channel is SAFE (R66, R81). -/
inductive SafeLevel where
  | rest
  | active
  | keep
  deriving DecidableEq, Repr

/-- A channel's overlap policy (R66). -/
inductive Policy where
  | strict
  | merge
  deriving DecidableEq, Repr

/-- The edges of its line a sense input examines (R111). -/
inductive EdgeSel where
  | rise
  | fall
  | both
  deriving DecidableEq, Repr

/-- The result codes of a response (R177). -/
inductive Result where
  | ok
  | full
  | stale
  | state
  | busy
  | badField
  | range
  | empty
  | unknown
  deriving DecidableEq, Repr

/-- A set of attention causes: bit k names the cause at place k of R159's order, DONE_PENDING at 0, LINK_FAULT at 10
(R164, R166, R183). -/
abbrev CauseSet := BitVec 11

/-- The levels of the input lines where a reset ends: the references taken there (R41, R121, R154) and whether CSn is low
(R180). -/
structure Lines where
  enca : Level
  encb : Level
  encz : Level
  quiescen : Level
  csn : Level
  sen : Vector Level 8
  deriving DecidableEq, Repr

/-- The claims that falling due makes on the table: all records of one domain due on one channel, or one MARK record
(R44, R50). -/
inductive DueClaim where
  | channel (domain : Domain) (c : ChannelIx)
  | mark (slot : SlotIx)
  deriving DecidableEq, Repr

/-- A request's payload as its owner block takes it: the items it carries, or the mark that its encoding does not fit the
request's layout (R185). -/
inductive Payload (α : Type) where
  | fits (items : α)
  | unfit
  deriving DecidableEq, Repr

/-- The payload of a request that carries nothing but its pad byte (R172, R185). -/
abbrev PadOnly := Payload Unit

/-- A handle as a request names it: any slot byte, judged by the checks of R3. -/
structure HandleItems where
  slot : Byte
  gen : Byte
  deriving DecidableEq, Repr

/-- A burst's three values as a request carries them (R89, R92, R123). -/
structure BurstItems where
  high : Nat
  low : Nat
  cycles : Nat
  deriving DecidableEq, Repr

/-- How long a repeat goes on: a remaining count, or endless (R10). -/
inductive Run where
  | counted (remaining : Nat)
  | endless
  deriving DecidableEq, Repr

/-- A repeat as a request carries it; `run` is absent where neither a remaining count nor "endless" is given (R89). -/
structure RepeatItems where
  interval : Nat
  run : Option Run
  deriving DecidableEq, Repr

/-- The items that ARM and a spawn step have in common (R89, R123), each possibly absent where the rules judge absence. -/
structure RecordItems where
  domain : Domain
  direction : Option Dir
  kind : Kind
  channel : Option Nat
  width : Option Nat
  burst : Option BurstItems
  priority : Nat
  rep : Option RepeatItems
  keep : Bool
  miss : MissPolicy
  deriving DecidableEq, Repr

/-- The items of an ARM request (R89). -/
structure ArmItems where
  start : Start
  form : DueForm
  value : Option Word
  items : RecordItems
  group : Option Nat
  deriving DecidableEq, Repr

/-- A change of the repeat field by AMEND: removal, or a new setting (R92). -/
inductive RepeatChange where
  | remove
  | set (r : RepeatItems)
  deriving DecidableEq, Repr

/-- The items an AMEND selects (R92). `group` 0 asks to remove the group (R185); `namesFixed` says that the selection names
the channel, kind, domain, direction or origin. -/
structure AmendBody where
  due : Option (DueForm × Word)
  width : Option Nat
  burst : Option BurstItems
  priority : Option Nat
  rep : Option RepeatChange
  keep : Option Bool
  miss : Option MissPolicy
  group : Option Nat
  namesFixed : Bool
  deriving DecidableEq, Repr

/-- An AMEND: its handle, and the rest of its payload, judged after the handle checks (R92). -/
structure AmendItems where
  handle : HandleItems
  body : Payload AmendBody
  deriving DecidableEq, Repr

/-- The two settings of the free pool (R15). -/
structure SettingsItems where
  reserve : Nat
  lowThreshold : Nat
  deriving DecidableEq, Repr

/-- The items of CHAN_CONFIG (R67). -/
structure ChanConfigItems where
  channel : Nat
  rest : Level
  safe : SafeLevel
  policy : Policy
  deriving DecidableEq, Repr

/-- The items of SENSE_CONFIG (R117). -/
structure SenseConfigItems where
  input : Nat
  enable : Bool
  edges : EdgeSel
  prescale : Nat
  gap : Nat
  deriving DecidableEq, Repr

/-- A spawn step as BIND_WRITE carries it (R123). -/
structure StepItems where
  offset : Nat
  items : RecordItems
  deriving DecidableEq, Repr

/-- The items of BIND_WRITE (R125). -/
structure BindWriteItems where
  binding : Nat
  input : Nat
  steps : List StepItems
  deriving DecidableEq, Repr

/-- The items of BIND_DISABLE (R128). -/
structure BindDisableItems where
  binding : Nat
  retire : Bool
  deriving DecidableEq, Repr

/-- The commands of the SWK216, one constructor for each row of the opcode table. Those down to
`csnRiseAfterReset` are happenings at a pin or at the part's own clocks. Each one after it is a request, given by its tag and
its payload's items: it stands for a frame of good length and CRC that reaches step 6 of R173 at a window's close. -/
inductive Instr where
  /-- POWER_ON: power-on has ended with RSTn at `rstn` and the input lines at `lines` (R41). -/
  | powerOn (rstn : Level) (lines : Lines)
  /-- RSTN_LOW: RSTn goes low (R180). -/
  | rstnLow
  /-- RSTN_HIGH: RSTn is released with the input lines at `lines` (R41, R180). -/
  | rstnHigh (lines : Lines)
  /-- GRAIN_TICK: the end of a grain (R24). -/
  | grainTick
  /-- FALLING_DUE: one claim of records whose due value has been reached (R44). -/
  | fallingDue (claim : DueClaim)
  /-- PULSE_END: the pulse-end tick of channel `c` is reached (R78). -/
  | pulseEnd (c : ChannelIx)
  /-- BURST_PHASE_CHANGE: the REFCLK periods of channel `c`'s burst phase have run out (R79). -/
  | burstPhaseChange (c : ChannelIx)
  /-- ENCODER_STEP: a valid quadrature transition in direction `d` (R33). -/
  | encoderStep (d : Dir)
  /-- ENCODER_FAULT: a transition of both encoder lines (R34). -/
  | encoderFault
  /-- ENCZ_RISING_EDGE: a rising edge of the encoder index (R36). -/
  | enczRisingEdge
  /-- SENSE_EDGE: input `n` samples its line at `sample` (R110). -/
  | senseEdge (n : SenseIx) (sample : Level)
  /-- QUIESCEN_FALLING_EDGE (R141). -/
  | quiescenFallingEdge
  /-- QUIESCEN_RISING_EDGE (R141). -/
  | quiescenRisingEdge
  /-- SWEEP_END: the sweep ends (R106). -/
  | sweepEnd
  /-- WINDOW_START: CSn falls (R169, R170). -/
  | windowStart
  /-- WINDOW_CLOSE: CSn rises after the bits `mosi` were clocked in, first bit first (R169, R173). -/
  | windowClose (mosi : List Bool)
  /-- CSN_RISE_AFTER_RESET: CSn, low since RSTn rose, rises (R180). -/
  | csnRiseAfterReset
  /-- UNKNOWN_REQUEST: a frame whose code names no request (R174). -/
  | unknownRequest (tag : Byte)
  /-- SETTINGS (R15). -/
  | settings (tag : Byte) (p : Payload SettingsItems)
  /-- SETTINGS_READ (R16). -/
  | settingsRead (tag : Byte) (p : PadOnly)
  /-- SET_GRAIN: the new divisor (R25). -/
  | setGrain (tag : Byte) (p : Payload Nat)
  /-- START_T (R27). -/
  | startT (tag : Byte) (p : PadOnly)
  /-- STOP_T (R28). -/
  | stopT (tag : Byte) (p : PadOnly)
  /-- SET_T: the value for TB-T (R29). -/
  | setT (tag : Byte) (p : Payload Word)
  /-- READ_T (R30). -/
  | readT (tag : Byte) (p : PadOnly)
  /-- HOME_P: the home value (R35). -/
  | homeP (tag : Byte) (p : Payload Word)
  /-- CANCEL_HOME (R38). -/
  | cancelHome (tag : Byte) (p : PadOnly)
  /-- SET_P: the value for TB-P (R39). -/
  | setP (tag : Byte) (p : Payload Word)
  /-- READ_P (R40). -/
  | readP (tag : Byte) (p : PadOnly)
  /-- CHAN_CONFIG (R67). -/
  | chanConfig (tag : Byte) (p : Payload ChanConfigItems)
  /-- CHAN_READ: the channel number (R69). -/
  | chanRead (tag : Byte) (p : Payload Nat)
  /-- ARM (R89). -/
  | arm (tag : Byte) (p : Payload ArmItems)
  /-- AMEND (R92). -/
  | amend (tag : Byte) (p : Payload AmendItems)
  /-- RETIRE: the handle (R94). -/
  | retire (tag : Byte) (p : Payload HandleItems)
  /-- GO_GROUP: the group number (R95). -/
  | goGroup (tag : Byte) (p : Payload Nat)
  /-- RETIRE_GROUP: the group number (R97). -/
  | retireGroup (tag : Byte) (p : Payload Nat)
  /-- PEEK: the handle (R98). -/
  | peek (tag : Byte) (p : Payload HandleItems)
  /-- SCAN: the starting slot number (R99). -/
  | scan (tag : Byte) (p : Payload Nat)
  /-- NEXT_DUE (R100). -/
  | nextDue (tag : Byte) (p : PadOnly)
  /-- TABLE_CLEAR (R105). -/
  | tableClear (tag : Byte) (p : PadOnly)
  /-- SENSE_CONFIG (R117). -/
  | senseConfig (tag : Byte) (p : Payload SenseConfigItems)
  /-- READ_STAMP: the input number (R119). -/
  | readStamp (tag : Byte) (p : Payload Nat)
  /-- BIND_WRITE (R125). -/
  | bindWrite (tag : Byte) (p : Payload BindWriteItems)
  /-- BIND_ENABLE: the binding number (R127). -/
  | bindEnable (tag : Byte) (p : Payload Nat)
  /-- BIND_DISABLE (R128). -/
  | bindDisable (tag : Byte) (p : Payload BindDisableItems)
  /-- BIND_READ: the binding number (R130). -/
  | bindRead (tag : Byte) (p : Payload Nat)
  /-- QUIESCE (R142). -/
  | quiesce (tag : Byte) (p : PadOnly)
  /-- RESUME (R143). -/
  | resume (tag : Byte) (p : PadOnly)
  /-- QUIESCE_READ (R144). -/
  | quiesceRead (tag : Byte) (p : PadOnly)
  /-- COLLECT: without a handle, or with one (R155, R156). -/
  | collect (tag : Byte) (p : Payload (Option HandleItems))
  /-- READ_ATTENTION (R163). -/
  | readAttention (tag : Byte) (p : PadOnly)
  /-- ACK_ATTENTION: the causes acknowledged (R164). -/
  | ackAttention (tag : Byte) (p : Payload CauseSet)
  /-- SET_MASK: the causes masked (R166). -/
  | setMask (tag : Byte) (p : Payload CauseSet)
  /-- IDENT (R178). -/
  | ident (tag : Byte) (p : PadOnly)
  /-- SOFT_RESET (R179). -/
  | softReset (tag : Byte) (p : PadOnly)
  deriving DecidableEq, Repr

end Sys2Proof
end

