-- ==== Sys2Proof/Config.lean ====
section
/-! DEFINITION. What is fixed for every SWK216, and the FREE VALUES: the points the spec leaves open, each an opaque constant
with no body, so that no proof can rest on one. -/

namespace Sys2Proof

/-- The horizon of the TIME domain: 2^30 grains (R7). -/
def Config.timeHorizon : Nat := 2 ^ 30

/-- The horizon of the POSITION domain: 2^23 counts (R7). -/
def Config.positionHorizon : Nat := 2 ^ 23

/-- The response queue holds 0 to 4 entries (R176). -/
def Config.queueCapacity : Nat := 4

/-- The horizon of a domain (R7). -/
def Config.horizon : Domain → Nat
  | .time => Config.timeHorizon
  | .position => Config.positionHorizon

/-- FREE VALUE (notes/assumptions/4.md). Which of several happenings still to be taken at one instant the part takes next:
claims of different channels, MARK claims and pulse ends need no order among themselves (R44, R47, R80). The argument is the
model's own counter `State.freeIx`; the result, modulo the number of happenings left, picks one. -/
opaque Config.happeningOrder : Nat → Nat

/-- FREE VALUE (notes/assumptions/5.md). A request without payload that carries more than its pad byte is refused BAD_FIELD
(R185), but the rules of SETTINGS_READ, NEXT_DUE, TABLE_CLEAR and RESUME place no BAD_FIELD check among their other checks.
Whether it comes before the check that gives the other result, for the request of the given code. -/
opaque Config.padFaultBefore : Byte → Result → Bool

/-- FREE VALUE (notes/assumptions/6.md). Table 11-1 lists no meaning for bits 7 to 4 of CHAN_CONFIG's configuration byte and
bits 7 to 3 of SENSE_CONFIG's flags byte. Whether a byte with one of them set is an encoding fault, for the request of the
given code and that byte. -/
opaque Config.strayBitsFault : Byte → Byte → Bool

/-- FREE VALUE (notes/assumptions/20.md). Whether ENCZ, which rose at its last index edge, is still HIGH where a SOFT_RESET takes
its reference from the line (R41): a fall of ENCZ has no effect (R36) and no command. The argument is the model's own counter
`State.freeIx`. -/
opaque Config.enczStillHigh : Nat → Bool

end Sys2Proof
end

