-- ==== Sys2Proof/Decode.lean ====
section
/-! DEFINITION. The decoder: from the code and payload bytes of an accepted request frame to a request command (R172, R181,
R183, R185), total on any bytes; a code that names no request gives UNKNOWN_REQUEST, and a payload that does not fit its
request's layout gives the request with an unfit payload. The encoder of requests follows it, and `decodeTableWord` is at the
end. -/

namespace Sys2Proof

/-- Bits `lo` to `lo + width - 1` of a byte, as a number. -/
def bitField (b : Byte) (lo width : Nat) : Nat := b.toNat / 2 ^ lo % 2 ^ width

/-- A 16-bit value, most significant byte first (R183). -/
def num16 (a b : Byte) : Nat := a.toNat * 256 + b.toNat

/-- A 32-bit value, most significant byte first (R183). -/
def num32 (a b c d : Byte) : Nat := a.toNat * 2 ^ 24 + b.toNat * 2 ^ 16 + c.toNat * 2 ^ 8 + d.toNat

/-- A number that is present where it is not 0 (R185). -/
def nonzero (n : Nat) : Option Nat := if n = 0 then none else some n

/-- A payload that is exactly its pad byte (R172, R185). -/
def decodePad : List Byte → PadOnly
  | [_] => .fits ()
  | _ => .unfit

/-- A payload of one byte. -/
def decodeByte : List Byte → Payload Nat
  | [b] => .fits b.toNat
  | _ => .unfit

/-- A payload of one 32-bit value. -/
def decodeWord : List Byte → Payload Word
  | [a, b, c, d] => .fits (BitVec.ofNat 32 (num32 a b c d))
  | _ => .unfit

/-- A payload of one handle. -/
def decodeHandle : List Byte → Payload HandleItems
  | [s, g] => .fits { slot := s, gen := g }
  | _ => .unfit

/-- SETTINGS: reserve, low threshold. -/
def decodeSettings : List Byte → Payload SettingsItems
  | [r, t] => .fits { reserve := r.toNat, lowThreshold := t.toNat }
  | _ => .unfit

/-- SET_GRAIN: the divisor. -/
def decodeDivisor : List Byte → Payload Nat
  | [a, b] => .fits (num16 a b)
  | _ => .unfit

def levelOf (n : Nat) : Level := if n = 0 then .low else .high

def boolOf (n : Nat) : Bool := n ≠ 0

/-- Safe level codes; 3 has no meaning (R185). -/
def safeOf : Nat → Option SafeLevel
  | 0 => some .rest
  | 1 => some .active
  | 2 => some .keep
  | _ => none

/-- Edge selection codes; 3 has no meaning (R185). -/
def edgesOf : Nat → Option EdgeSel
  | 0 => some .rise
  | 1 => some .fall
  | 2 => some .both
  | _ => none

/-- Bits of a byte to which the layout gives no meaning: whether one that is set is an encoding fault is open where no bit is
listed as 0 (`Config.strayBitsFault`). -/
def strayFault (code b : Byte) (lo : Nat) : Bool := if b.toNat / 2 ^ lo = 0 then false else Config.strayBitsFault code b

/-- CHAN_CONFIG: the channel, the configuration byte. -/
def decodeChanConfig : List Byte → Payload ChanConfigItems
  | [c, b] =>
    match safeOf (bitField b 1 2) with
    | none => .unfit
    | some safe =>
      if strayFault 0x41 b 4 then .unfit
      else .fits { channel := c.toNat, rest := levelOf (bitField b 0 1), safe := safe,
                   policy := if bitField b 3 1 = 0 then .strict else .merge }
  | _ => .unfit

/-- SENSE_CONFIG: the input, the flags, the prescale, the gap. -/
def decodeSenseConfig : List Byte → Payload SenseConfigItems
  | [n, f, p, g1, g0] =>
    match edgesOf (bitField f 1 2) with
    | none => .unfit
    | some edges =>
      if strayFault 0x61 f 3 then .unfit
      else .fits { input := n.toNat, enable := boolOf (bitField f 0 1), edges := edges, prescale := p.toNat,
                   gap := num16 g1 g0 }
  | _ => .unfit

/-- Kind codes; 6 and 7 have no meaning (R185). -/
def kindOf : Nat → Option Kind
  | 0 => some .assert
  | 1 => some .release
  | 2 => some .toggle
  | 3 => some .pulse
  | 4 => some .burst
  | 5 => some .mark
  | _ => none

/-- The direction item of a domain: bit 5 is read for POSITION, and for TIME it is present only where it is set, which R185
then judges. -/
def directionOf (domain dir : Nat) : Option Dir :=
  if domain = 0 then (if dir = 0 then none else some .rev) else some (if dir = 0 then .fwd else .rev)

def domainOf (n : Nat) : Domain := if n = 0 then .time else .position

def missOf (n : Nat) : MissPolicy := if n = 0 then .drop else .hold

/-- The channel item: a MARK's is present only where it is not 0 (R185). -/
def channelItem (kind : Kind) (n : Nat) : Option Nat :=
  match kind with
  | .mark => nonzero n
  | _ => some n

/-- The repeat item from its code, interval and remaining count; no item is a code without meaning, or a remaining count not 0
beside endless. An interval or count not 0 beside an absent repeat is a repeat given with neither a remaining count nor
endless (R89, R185). -/
def repeatItem (code interval remaining : Nat) : Option (Option RepeatItems) :=
  match code with
  | 0 => if interval = 0 ∧ remaining = 0 then some none else some (some { interval := interval, run := none })
  | 1 => some (some { interval := interval, run := some (.counted remaining) })
  | 2 => if remaining = 0 then some (some { interval := interval, run := some .endless }) else none
  | _ => none

/-- Record bytes 13 and 14 as the width item: a BURST's hold its cycles (Table 11-2). -/
def widthItem (kind : Kind) (n : Nat) : Option Nat :=
  match kind with
  | .burst => none
  | _ => nonzero n

/-- Record bytes 13 to 16 as the burst item: present for a BURST, and for another kind only where the carrier is not 0. -/
def burstItem (kind : Kind) (cycles high low : Nat) : Option BurstItems :=
  match kind with
  | .burst => some { high := high, low := low, cycles := cycles }
  | _ => if high = 0 ∧ low = 0 then none else some { high := high, low := low, cycles := 0 }

/-- Start codes: 1 PARKED, 2 ARMED; no other has a meaning (R185). -/
def startOf : Nat → Option Start
  | 1 => some .parked
  | 2 => some .armed
  | _ => none

/-- ARM: record bytes 0 to 16 (Table 11-2). Bit 7 of byte 1 says that the due value is absent. -/
def decodeArm : List Byte → Payload ArmItems
  | [b0, b1, b2, b3, b4, b5, b6, b7, b8, b9, b10, b11, b12, b13, b14, b15, b16] =>
    match startOf (bitField b0 0 3), kindOf (bitField b1 0 3),
        repeatItem (bitField b1 5 2) (num32 b7 b8 b9 b10) (num16 b11 b12) with
    | some start, some kind, some rep =>
      .fits
        { start := start
          form := if bitField b0 3 1 = 0 then .offset else .absolute
          value := if bitField b1 7 1 = 0 then some (BitVec.ofNat 32 (num32 b3 b4 b5 b6)) else none
          items :=
            { domain := domainOf (bitField b0 4 1)
              direction := directionOf (bitField b0 4 1) (bitField b0 5 1)
              kind := kind
              channel := channelItem kind (bitField b2 0 4)
              width := widthItem kind (num16 b13 b14)
              burst := burstItem kind (num16 b13 b14) b15.toNat b16.toNat
              priority := bitField b1 3 2
              rep := rep
              keep := boolOf (bitField b0 6 1)
              miss := missOf (bitField b0 7 1) }
          group := nonzero (bitField b2 4 4) }
    | _, _, _ => .unfit
  | _ => .unfit

/-- The repeat item of an AMEND whose selection names it: code 0 removes the repeat (R92). -/
def repeatChange (code interval remaining : Nat) : Option RepeatChange :=
  match repeatItem code interval remaining with
  | none => none
  | some none => some .remove
  | some (some r) => some (.set r)

/-- An item read only where its bit of the selection is set. -/
def selectedItem {α : Type} (sel bitIx : Nat) (x : α) : Option α := if sel.testBit bitIx then some x else none

/-- AMEND after its handle: the selection, then record bytes 0 to 16, of which only the items selected are read (R183, R185).
Bits 13 to 15 of the selection are 0. -/
def decodeAmendBody : List Byte → Payload AmendBody
  | [s1, s0, b0, b1, b2, b3, b4, b5, b6, b7, b8, b9, b10, b11, b12, b13, b14, b15, b16] =>
    let sel := num16 s1 s0
    let change := repeatChange (bitField b1 5 2) (num32 b7 b8 b9 b10) (num16 b11 b12)
    if sel / 2 ^ 13 ≠ 0 then .unfit
    else if sel.testBit 4 && change.isNone then .unfit
    else
      .fits
        { due := selectedItem sel 0
            (if bitField b0 3 1 = 0 then .offset else .absolute, BitVec.ofNat 32 (num32 b3 b4 b5 b6))
          width := selectedItem sel 1 (num16 b13 b14)
          burst := selectedItem sel 2 { high := b15.toNat, low := b16.toNat, cycles := num16 b13 b14 }
          priority := selectedItem sel 3 (bitField b1 3 2)
          rep := if sel.testBit 4 then change else none
          keep := selectedItem sel 5 (boolOf (bitField b0 6 1))
          miss := selectedItem sel 6 (missOf (bitField b0 7 1))
          group := selectedItem sel 7 (bitField b2 4 4)
          namesFixed := sel / 2 ^ 8 ≠ 0 }
  | _ => .unfit

/-- AMEND: the handle, then the rest (Table 11-1). -/
def decodeAmend : List Byte → Payload AmendItems
  | s :: g :: rest => .fits { handle := { slot := s, gen := g }, body := decodeAmendBody rest }
  | _ => .unfit

/-- A spawn step's width or burst and what follows, by its kind (Table 11-3). -/
def takeWork (kind : Kind) (bytes : List Byte) : Option (Option Nat × Option BurstItems × List Byte) :=
  match kind, bytes with
  | .pulse, w1 :: w0 :: rest => some (some (num16 w1 w0), none, rest)
  | .pulse, _ => none
  | .burst, h :: l :: n1 :: n0 :: rest => some (none, some { high := h.toNat, low := l.toNat, cycles := num16 n1 n0 }, rest)
  | .burst, _ => none
  | _, rest => some (none, none, rest)

/-- A spawn step's repeat and what follows, by its code (Table 11-3). -/
def takeRepeat (code : Nat) (bytes : List Byte) : Option (Option RepeatItems × List Byte) :=
  match code, bytes with
  | 0, rest => some (none, rest)
  | 1, a :: b :: c :: d :: e :: f :: rest =>
    some (some { interval := num32 a b c d, run := some (.counted (num16 e f)) }, rest)
  | 2, a :: b :: c :: d :: rest => some (some { interval := num32 a b c d, run := some .endless }, rest)
  | _, _ => none

/-- One spawn-step image and what follows it (Table 11-3). Bit 7 of its second byte is 0. -/
def takeStep : List Byte → Option (StepItems × List Byte)
  | b0 :: b1 :: o3 :: o2 :: o1 :: o0 :: rest =>
    match kindOf (bitField b1 0 3) with
    | none => none
    | some kind =>
      if bitField b1 7 1 = 1 then none
      else
        match takeWork kind rest with
        | none => none
        | some (width, burst, rest) =>
          match takeRepeat (bitField b1 5 2) rest with
          | none => none
          | some (rep, rest) =>
            some ({ offset := num32 o3 o2 o1 o0
                    items :=
                      { domain := domainOf (bitField b0 4 1)
                        direction := directionOf (bitField b0 4 1) (bitField b0 5 1)
                        kind := kind
                        channel := channelItem kind (bitField b0 0 4)
                        width := width
                        burst := burst
                        priority := bitField b1 3 2
                        rep := rep
                        keep := boolOf (bitField b0 6 1)
                        miss := missOf (bitField b0 7 1) } }, rest)
  | _ => none

/-- Spawn-step images one after another, to the last byte; at most `n` of them are read. -/
def takeSteps : Nat → List Byte → Option (List StepItems)
  | _, [] => some []
  | 0, _ :: _ => none
  | n + 1, b :: rest =>
    match takeStep (b :: rest) with
    | none => none
    | some (x, rest) => (takeSteps n rest).map (x :: ·)

/-- BIND_WRITE: binding, input, then step images; more than four steps do not fit (R125, R185). -/
def decodeBindWrite : List Byte → Payload BindWriteItems
  | b :: n :: rest =>
    match takeSteps 4 rest with
    | none => .unfit
    | some steps => .fits { binding := b.toNat, input := n.toNat, steps := steps }
  | _ => .unfit

/-- BIND_DISABLE: binding, option (00h no, 01h yes). -/
def decodeBindDisable : List Byte → Payload BindDisableItems
  | [b, o] => if o = 0 then .fits { binding := b.toNat, retire := false }
    else if o = 1 then .fits { binding := b.toNat, retire := true }
    else .unfit
  | _ => .unfit

/-- COLLECT: one byte is no handle, two are a handle (R185). -/
def decodeCollect : List Byte → Payload (Option HandleItems)
  | [_] => .fits none
  | [s, g] => .fits (some { slot := s, gen := g })
  | _ => .unfit

/-- A cause set of two bytes; bits 11 to 15 are 0 (R183). One byte carries no set (R185). -/
def decodeSet : List Byte → Payload CauseSet
  | [a, b] => if num16 a b / 2 ^ 11 = 0 then .fits (BitVec.ofNat 11 (num16 a b)) else .unfit
  | _ => .unfit

/-- The request that a code byte names, with its payload; UNKNOWN_REQUEST where it names none (R174, R181). -/
def decodeRequest (code tag : Byte) (payload : List Byte) : Instr :=
  match code.toNat with
  | 0x11 => .settings tag (decodeSettings payload)
  | 0x12 => .settingsRead tag (decodePad payload)
  | 0x21 => .setGrain tag (decodeDivisor payload)
  | 0x22 => .startT tag (decodePad payload)
  | 0x23 => .stopT tag (decodePad payload)
  | 0x24 => .setT tag (decodeWord payload)
  | 0x25 => .readT tag (decodePad payload)
  | 0x26 => .homeP tag (decodeWord payload)
  | 0x27 => .cancelHome tag (decodePad payload)
  | 0x28 => .setP tag (decodeWord payload)
  | 0x29 => .readP tag (decodePad payload)
  | 0x41 => .chanConfig tag (decodeChanConfig payload)
  | 0x42 => .chanRead tag (decodeByte payload)
  | 0x51 => .arm tag (decodeArm payload)
  | 0x52 => .amend tag (decodeAmend payload)
  | 0x53 => .retire tag (decodeHandle payload)
  | 0x54 => .goGroup tag (decodeByte payload)
  | 0x55 => .retireGroup tag (decodeByte payload)
  | 0x56 => .peek tag (decodeHandle payload)
  | 0x57 => .scan tag (decodeByte payload)
  | 0x58 => .nextDue tag (decodePad payload)
  | 0x59 => .tableClear tag (decodePad payload)
  | 0x61 => .senseConfig tag (decodeSenseConfig payload)
  | 0x62 => .readStamp tag (decodeByte payload)
  | 0x71 => .bindWrite tag (decodeBindWrite payload)
  | 0x72 => .bindEnable tag (decodeByte payload)
  | 0x73 => .bindDisable tag (decodeBindDisable payload)
  | 0x74 => .bindRead tag (decodeByte payload)
  | 0x81 => .quiesce tag (decodePad payload)
  | 0x82 => .resume tag (decodePad payload)
  | 0x83 => .quiesceRead tag (decodePad payload)
  | 0x91 => .collect tag (decodeCollect payload)
  | 0x92 => .readAttention tag (decodePad payload)
  | 0x93 => .ackAttention tag (decodeSet payload)
  | 0x94 => .setMask tag (decodeSet payload)
  | 0xA1 => .ident tag (decodePad payload)
  | 0xA2 => .softReset tag (decodePad payload)
  | _ => .unknownRequest tag

/-! ### The encoder -/

/-- A 16-bit value, most significant byte first (R183). -/
def be16 (n : Nat) : List Byte := [u8 (n / 256), u8 n]

/-- A 32-bit number, most significant byte first (R183). -/
def be32 (n : Nat) : List Byte := [u8 (n / 2 ^ 24), u8 (n / 2 ^ 16), u8 (n / 2 ^ 8), u8 n]

/-- A flag as a bit. -/
def bit (b : Bool) : Nat := if b then 1 else 0

/-- HIGH as 1 (Table 11-1). -/
def levelBit : Level → Nat
  | .low => 0
  | .high => 1

def safeCode : SafeLevel → Nat
  | .rest => 0
  | .active => 1
  | .keep => 2

def edgesCode : EdgeSel → Nat
  | .rise => 0
  | .fall => 1
  | .both => 2

def kindCode : Kind → Nat
  | .assert => 0
  | .release => 1
  | .toggle => 2
  | .pulse => 3
  | .burst => 4
  | .mark => 5

def startCode : Start → Nat
  | .parked => 1
  | .armed => 2

def formBit : DueForm → Nat
  | .offset => 0
  | .absolute => 1

/-- The repeat item's code, interval and remaining count. An item without a run is spelled with code 0 beside an interval or a
count that is not 0. -/
def repeatParts : Option RepeatItems → Nat × Nat × Nat
  | none => (0, 0, 0)
  | some { interval := n, run := none } => (0, n, if n = 0 then 1 else 0)
  | some { interval := n, run := some (.counted k) } => (1, n, k)
  | some { interval := n, run := some .endless } => (2, n, 0)

/-- The REV bit and the POSITION bit of a record's byte 0 (Table 11-2). -/
def domainBits (d : Domain) (dir : Option Dir) : Nat :=
  16 * bit (d == .position) + 32 * bit (dir == some .rev)

/-- The bits of keep and miss policy (Table 11-2). -/
def keepMissBits (keep : Bool) (miss : MissPolicy) : Nat := 64 * bit keep + 128 * bit (miss == .hold)

/-- ARM's payload (Table 11-2). -/
def encodeArm (a : ArmItems) : List Byte :=
  let i := a.items
  let r := repeatParts i.rep
  [u8 (startCode a.start + 8 * formBit a.form + domainBits i.domain i.direction + keepMissBits i.keep i.miss),
    u8 (kindCode i.kind + 8 * i.priority + 32 * r.1 + 128 * bit a.value.isNone),
    u8 (i.channel.getD 0 + 16 * a.group.getD 0)]
  ++ be32 (a.value.getD 0).toNat ++ be32 r.2.1 ++ be16 r.2.2
  ++ be16 (match i.kind, i.burst with
      | .burst, some b => b.cycles
      | _, _ => i.width.getD 0)
  ++ [u8 ((i.burst.map (·.high)).getD 0), u8 ((i.burst.map (·.low)).getD 0)]

/-- The repeat bits of an AMEND (R185). -/
def changeParts : Option RepeatChange → Nat × Nat × Nat
  | some (.set r) => repeatParts (some r)
  | _ => (0, 0, 0)

/-- The selection of an AMEND (R183); an item that may not be amended is spelled as the channel's bit. -/
def selection (b : AmendBody) : Nat :=
  bit b.due.isSome + 2 * bit b.width.isSome + 4 * bit b.burst.isSome + 8 * bit b.priority.isSome + 16 * bit b.rep.isSome
  + 32 * bit b.keep.isSome + 64 * bit b.miss.isSome + 128 * bit b.group.isSome + 256 * bit b.namesFixed

/-- AMEND's payload after the handle (R183, Table 11-2). -/
def encodeAmendBody (b : AmendBody) : List Byte :=
  let r := changeParts b.rep
  be16 (selection b)
  ++ [u8 (8 * formBit ((b.due.map Prod.fst).getD .offset) + keepMissBits (b.keep.getD false) (b.miss.getD .drop)),
    u8 (8 * b.priority.getD 0 + 32 * r.1),
    u8 (16 * b.group.getD 0)]
  ++ be32 ((b.due.map Prod.snd).getD 0).toNat ++ be32 r.2.1 ++ be16 r.2.2
  ++ be16 ((b.burst.map (·.cycles)).getD (b.width.getD 0))
  ++ [u8 ((b.burst.map (·.high)).getD 0), u8 ((b.burst.map (·.low)).getD 0)]

/-- A spawn step's width or burst (Table 11-3). -/
def encodeStepWork (i : RecordItems) : List Byte :=
  match i.kind with
  | .pulse => be16 (i.width.getD 0)
  | .burst => (i.burst.map (fun b => [u8 b.high, u8 b.low] ++ be16 b.cycles)).getD [0, 0, 0, 0]
  | _ => []

/-- A spawn step's repeat (Table 11-3). -/
def encodeStepRepeat : Option RepeatItems → List Byte
  | some { interval := n, run := some (.counted k) } => be32 n ++ be16 k
  | some { interval := n, run := some .endless } => be32 n
  | _ => []

/-- A spawn-step image (Table 11-3). -/
def encodeStep (x : StepItems) : List Byte :=
  let i := x.items
  [u8 (i.channel.getD 0 + domainBits i.domain i.direction + keepMissBits i.keep i.miss),
    u8 (kindCode i.kind + 8 * i.priority + 32 * (repeatParts i.rep).1)]
  ++ be32 x.offset ++ encodeStepWork i ++ encodeStepRepeat i.rep

/-- A payload written by its encoder; one that does not fit its layout has no single spelling. -/
def encodeWith {α : Type} (f : α → List Byte) : Payload α → Option (List Byte)
  | .fits a => some (f a)
  | .unfit => none

/-- The pad byte of a request without payload (R172). -/
def encodePad : PadOnly → Option (List Byte) := encodeWith (fun _ => [0])

def encodeByte : Payload Nat → Option (List Byte) := encodeWith (fun n => [u8 n])

def encodeWord : Payload Word → Option (List Byte) := encodeWith (fun v => be32 v.toNat)

def encodeHandle : Payload HandleItems → Option (List Byte) := encodeWith (fun h => [h.slot, h.gen])

def encodeSet : Payload CauseSet → Option (List Byte) := encodeWith (fun x => be16 x.toNat)

/-- A request's code, tag and payload bytes (R181, R183); absent for a happening, for UNKNOWN_REQUEST and for an unfit payload. -/
def encodeRequest : Instr → Option (Byte × Byte × List Byte)
  | .settings t p => (encodeWith (fun a => [u8 a.reserve, u8 a.lowThreshold]) p).map (0x11, t, ·)
  | .settingsRead t p => (encodePad p).map (0x12, t, ·)
  | .setGrain t p => (encodeWith be16 p).map (0x21, t, ·)
  | .startT t p => (encodePad p).map (0x22, t, ·)
  | .stopT t p => (encodePad p).map (0x23, t, ·)
  | .setT t p => (encodeWord p).map (0x24, t, ·)
  | .readT t p => (encodePad p).map (0x25, t, ·)
  | .homeP t p => (encodeWord p).map (0x26, t, ·)
  | .cancelHome t p => (encodePad p).map (0x27, t, ·)
  | .setP t p => (encodeWord p).map (0x28, t, ·)
  | .readP t p => (encodePad p).map (0x29, t, ·)
  | .chanConfig t p =>
    (encodeWith (fun a => [u8 a.channel, u8 (levelBit a.rest + 2 * safeCode a.safe + 8 * bit (a.policy == .merge))]) p).map
      (0x41, t, ·)
  | .chanRead t p => (encodeByte p).map (0x42, t, ·)
  | .arm t p => (encodeWith encodeArm p).map (0x51, t, ·)
  | .amend t p =>
    match p with
    | .fits { handle := h, body := .fits b } => some (0x52, t, h.slot :: h.gen :: encodeAmendBody b)
    | _ => none
  | .retire t p => (encodeHandle p).map (0x53, t, ·)
  | .goGroup t p => (encodeByte p).map (0x54, t, ·)
  | .retireGroup t p => (encodeByte p).map (0x55, t, ·)
  | .peek t p => (encodeHandle p).map (0x56, t, ·)
  | .scan t p => (encodeByte p).map (0x57, t, ·)
  | .nextDue t p => (encodePad p).map (0x58, t, ·)
  | .tableClear t p => (encodePad p).map (0x59, t, ·)
  | .senseConfig t p =>
    (encodeWith (fun a => [u8 a.input, u8 (bit a.enable + 2 * edgesCode a.edges), u8 a.prescale] ++ be16 a.gap) p).map
      (0x61, t, ·)
  | .readStamp t p => (encodeByte p).map (0x62, t, ·)
  | .bindWrite t p => (encodeWith (fun a => u8 a.binding :: u8 a.input :: a.steps.flatMap encodeStep) p).map (0x71, t, ·)
  | .bindEnable t p => (encodeByte p).map (0x72, t, ·)
  | .bindDisable t p => (encodeWith (fun a => [u8 a.binding, u8 (bit a.retire)]) p).map (0x73, t, ·)
  | .bindRead t p => (encodeByte p).map (0x74, t, ·)
  | .quiesce t p => (encodePad p).map (0x81, t, ·)
  | .resume t p => (encodePad p).map (0x82, t, ·)
  | .quiesceRead t p => (encodePad p).map (0x83, t, ·)
  | .collect t p =>
    (encodeWith (fun h : Option HandleItems => match h with
      | none => [0]
      | some h => [h.slot, h.gen]) p).map (0x91, t, ·)
  | .readAttention t p => (encodePad p).map (0x92, t, ·)
  | .ackAttention t p => (encodeSet p).map (0x93, t, ·)
  | .setMask t p => (encodeSet p).map (0x94, t, ·)
  | .ident t p => (encodePad p).map (0xA1, t, ·)
  | .softReset t p => (encodePad p).map (0xA2, t, ·)
  | .unknownRequest _ | .powerOn _ _ | .rstnLow | .rstnHigh _ | .grainTick | .fallingDue _ | .pulseEnd _
  | .burstPhaseChange _ | .encoderStep _ | .encoderFault | .enczRisingEdge | .senseEdge _ _ | .quiescenFallingEdge
  | .quiescenRisingEdge | .sweepEnd | .windowStart | .windowClose _ | .csnRiseAfterReset => none

/-- The command that a word spells by the opcode table's bits: the table gives no row any bits, so no word spells one. -/
def decodeTableWord (_nbits _w : Nat) : Option Instr := none

end Sys2Proof
end

