-- ==== Sys2Proof/Machine/Blocks.lean ====
section
/-! DEFINITION. The state of each block of the part, as plain data: the Action Table and its records, the timebases, the
output channels, the sense inputs, the bindings, Quiesce Control, the Attention Unit and the Command Link. -/

namespace Sys2Proof.Machine

/-- A handle: a slot and a generation (R3). -/
structure Handle where
  slot : SlotIx
  gen : Byte
  deriving DecidableEq, Repr

/-- A record's domain, with its direction where it is POSITION (R7). -/
inductive Base where
  | time
  | position (d : Dir)
  deriving DecidableEq, Repr

/-- The domain of a base (R7). -/
def Base.domain : Base → Domain
  | .time => .time
  | .position _ => .position

/-- A burst's carrier phases, in REFCLK periods, and its cycle count (R8). -/
structure Burst where
  high : Nat
  low : Nat
  cycles : Nat
  deriving DecidableEq, Repr

/-- What a firing does to a channel (R8). -/
inductive ChanAction where
  | assert
  | release
  | toggle
  | pulse (width : Nat)
  | burst (b : Burst)
  deriving DecidableEq, Repr

/-- The kind of a record with its channel: a MARK names none (R8). -/
inductive Work where
  | mark
  | onChannel (c : ChannelIx) (action : ChanAction)
  deriving DecidableEq, Repr

/-- The repeat field: an interval, and the remaining count; no count means endless (R10). -/
structure Repeat where
  interval : Nat
  remaining : Option Nat
  deriving DecidableEq, Repr

/-- What ARM and a spawn step both write into a record (R89, R123). -/
structure Template where
  base : Base
  work : Work
  priority : Fin 4
  rep : Option Repeat
  keep : Bool
  miss : MissPolicy
  deriving DecidableEq, Repr

/-- Where a record came from (R6). -/
inductive Origin where
  | host
  | binding (b : BindingIx) (ordinal : Nat)
  deriving DecidableEq, Repr

/-- Why a DONE record is done (R11). -/
inductive EndReason where
  | completed
  | retired
  | groupRetired
  | bindingRetired
  deriving DecidableEq, Repr

/-- The last outcome of a record (R11). -/
inductive LastOutcome where
  | none
  | fired
  | merged
  | late
  | conflict
  | missed
  deriving DecidableEq, Repr

/-- The live state of a record with what it holds there: an offset while PARKED, a due value while ARMED or SUSPENDED, and
once DONE the due value if it was ever ARMED, with the end reason (R4, R7, R11). -/
inductive Phase where
  | parked (offset : Nat)
  | armed (due : Word)
  | suspended (due : Word)
  | done (due : Option Word) (reason : EndReason)
  deriving DecidableEq, Repr

/-- An action record (section 1.3). -/
structure ActionRecord where
  origin : Origin
  what : Template
  group : Option Nat
  phase : Phase
  fired : Nat
  late : Nat
  conflict : Nat
  missed : Nat
  last : LastOutcome
  deriving DecidableEq, Repr

/-- A slot: its generation, its record unless it is FREE, and the mark that it awaits its generation step at the end of a
sweep (R1, R2, R22). -/
structure Slot where
  gen : Byte
  content : Option ActionRecord
  awaiting : Bool
  deriving DecidableEq, Repr

/-- The Action Table. The suspended and done lists stand oldest first (R20, R21). The time due order and the position set are
computed from the slots (R17, R18, R19), and so is the free count (R1). `sweep` is present while the table is SWEEPING and
holds the count of live slots kept for the TABLE_CLEAR's response (R22, R105). -/
structure ActionTable where
  slots : Vector Slot 128
  suspended : List SlotIx
  doneList : List SlotIx
  reserve : Nat
  lowThreshold : Nat
  sweep : Option Nat
  deriving DecidableEq, Repr

/-- The Timebase Unit (R41). `grainPhase` counts the REFCLK periods since the present grain began (R24, R25). `homing` is
true while the homing state is ARMED. `encA`, `encB` and `encZ` are the decoder's and ENCZ's references (R32, R36). -/
structure Timebases where
  divisor : Nat
  grainPhase : Nat
  tbT : Word
  running : Bool
  tbP : Word
  homing : Bool
  homeValue : Word
  lastDir : Option Dir
  encA : Level
  encB : Level
  encZ : Level
  deriving DecidableEq, Repr

/-- A channel's state with its in-flight items (R64). A pulse's `grains` are the grain ticks still to come up to its end; at
0 the end tick has been reached and the end is still to be taken (R73, R78, R80). A tick of this instant that is still to be
taken is among them, so a pulse of width 65535 can begin with 65536. A burst's `periods` are the REFCLK periods
left in its phase, and `cycles` the cycles remaining, the present one included. -/
inductive ChanState where
  | rest
  | asserted
  | pulse (priority : Fin 4) (handle : Handle) (grains : Nat)
  | burst (priority : Fin 4) (handle : Handle) (phase : Level) (periods cycles high low : Nat)
  | safe
  deriving DecidableEq, Repr

/-- An output channel (R64). -/
structure Channel where
  state : ChanState
  line : Level
  rest : Level
  safe : SafeLevel
  policy : Policy
  conflicts : Nat
  merges : Nat
  preemptions : Nat
  deriving DecidableEq, Repr

/-- The polarity of an edge (R109). -/
inductive Polarity where
  | rise
  | fall
  deriving DecidableEq, Repr

/-- A sense input (R109). `gapTracker` is absent for NONE, `polarity` absent for NONE. -/
structure SenseInput where
  lineRef : Level
  enable : Bool
  edges : EdgeSel
  prescale : Nat
  minGap : Nat
  prescaleCount : Nat
  gapTracker : Option Nat
  stampT : Word
  stampP : Word
  polarity : Option Polarity
  unread : Bool
  overrun : Bool
  deriving DecidableEq, Repr

/-- A spawn step (R123). -/
structure SpawnStep where
  what : Template
  offset : Nat
  deriving DecidableEq, Repr

/-- Why a spawn failed (R132). -/
inductive FailCause where
  | pool
  | tbStopped
  | homing
  | sweep
  deriving DecidableEq, Repr

/-- A binding (R122). Its steps are absent exactly when the list is empty. -/
structure Binding where
  input : SenseIx
  enabled : Bool
  steps : List SpawnStep
  ordinal : Nat
  live : Nat
  fails : Nat
  lastFail : Option FailCause
  deriving DecidableEq, Repr

/-- Quiesce Control: the trip latch and the pin mirror (R140). -/
structure QuiesceControl where
  latch : Bool
  mirror : Level
  deriving DecidableEq, Repr

/-- The eleven attention causes, in the order of R159. -/
inductive Cause where
  | donePending
  | tableLow
  | conflict
  | spawnFail
  | missed
  | mark
  | stampOverrun
  | encFault
  | trip
  | homed
  | linkFault
  deriving DecidableEq, Repr

/-- One attention cause's flag, count and mask bit (R159). -/
structure CauseState where
  pending : Bool
  count : Nat
  masked : Bool
  deriving DecidableEq, Repr

/-- The Attention Unit (R159): the causes in R159's order, and the last-mark handle. -/
structure Attention where
  causes : Vector CauseState 11
  lastMark : Option Handle
  deriving DecidableEq, Repr

/-- A result code with the payload that goes with it (R174, R177). -/
structure Reply where
  result : Result
  payload : List Byte
  deriving DecidableEq, Repr

/-- An entry of the response queue: reserved while it holds only a tag, filled once it holds a reply (R176). -/
structure Entry where
  tag : Byte
  reply : Option Reply
  deriving DecidableEq, Repr

/-- A window in progress: the status byte formed at its start, whether that showed RDY and FAULT, and the response frame it
carries after the status byte, which is empty where RDY is clear (R170, R171). -/
structure Window where
  status : Byte
  rdy : Bool
  fault : Bool
  frame : List Byte
  deriving DecidableEq, Repr

/-- Where the link stands: no window in progress, a window in progress, or waiting for CSn, low since RSTn rose, to rise
(R169, R180). -/
inductive WindowState where
  | idle
  | inProgress (w : Window)
  | awaitRise
  deriving DecidableEq, Repr

/-- The Command Link: the response queue, oldest first, the refusal and fault latches, and the window (R175, R176). -/
structure Link where
  queue : List Entry
  refusal : Bool
  fault : Bool
  window : WindowState
  deriving DecidableEq, Repr

end Sys2Proof.Machine
end

