-- ==== Sys2Proof/Machine/ResetValues.lean ====
section
/-! DEFINITION. The value each block takes at a reset, block by block (R23, R41, R85, R121, R138, R154, R168, R180). -/

namespace Sys2Proof.Machine

/-- A FREE slot of generation 0 (R2, R23). -/
def Slot.initial : Slot := { gen := 0, content := none, awaiting := false }

/-- The table after power-on and RSTn (R23). -/
def ActionTable.initial : ActionTable :=
  { slots := Vector.replicate 128 Slot.initial, suspended := [], doneList := [], reserve := 8, lowThreshold := 16,
    sweep := none }

/-- A slot after SOFT_RESET: FREE, its generation one higher if it was live or awaited the step of an unfinished sweep
(R2, R23). -/
def Slot.softReset (x : Slot) : Slot :=
  { gen := if x.content.isSome || x.awaiting then x.gen + 1 else x.gen, content := none, awaiting := false }

/-- The table after SOFT_RESET (R23). -/
def ActionTable.softReset (t : ActionTable) : ActionTable :=
  { ActionTable.initial with slots := t.slots.map Slot.softReset }

/-- The timebases after any reset, with the decoder's and ENCZ's references as given (R41). -/
def Timebases.initial (encA encB encZ : Level) : Timebases :=
  { divisor := 16, grainPhase := 0, tbT := 0, running := false, tbP := 0, homing := false, homeValue := 0,
    lastDir := none, encA := encA, encB := encB, encZ := encZ }

/-- A channel after any reset (R85). -/
def Channel.initial : Channel :=
  { state := .safe, line := .low, rest := .low, safe := .rest, policy := .strict, conflicts := 0, merges := 0,
    preemptions := 0 }

/-- A sense input after any reset, with its line reference as given (R121). -/
def SenseInput.initial (lineRef : Level) : SenseInput :=
  { lineRef := lineRef, enable := false, edges := .rise, prescale := 1, minGap := 0, prescaleCount := 0,
    gapTracker := none, stampT := 0, stampP := 0, polarity := none, unread := false, overrun := false }

/-- A binding after any reset (R138). -/
def Binding.initial : Binding :=
  { input := 0, enabled := false, steps := [], ordinal := 0, live := 0, fails := 0, lastFail := none }

/-- Quiesce Control after any reset, with the pin mirror as given (R154). -/
def QuiesceControl.initial (mirror : Level) : QuiesceControl := { latch := true, mirror := mirror }

/-- A cause after any reset (R168). -/
def CauseState.initial : CauseState := { pending := false, count := 0, masked := false }

/-- The Attention Unit after any reset (R168). -/
def Attention.initial : Attention := { causes := Vector.replicate 11 CauseState.initial, lastMark := none }

/-- The link after power-on and RSTn, with the window state as given (R180). -/
def Link.initial (window : WindowState) : Link := { queue := [], refusal := false, fault := false, window := window }

end Sys2Proof.Machine
end

