-- ==== Sys2Proof/Machine/State.lean ====
section
/-! DEFINITION. The state of the machine, the reasons it can stop, and the machine right after reset. -/

namespace Sys2Proof.Machine

/-- The state of the SWK216: each block's state (the spec's), the level of RSTn (R24, R180), the queue of commands waiting,
oldest first, and `freeIx`, the MODEL'S OWN count of the free choices taken so far (notes/assumptions/4.md). -/
structure State where
  pending : List Instr
  rstn : Level
  table : ActionTable
  time : Timebases
  channels : Vector Channel 16
  senses : Vector SenseInput 8
  bindings : Vector Binding 16
  quiesce : QuiesceControl
  attention : Attention
  link : Link
  freeIx : Nat
  deriving DecidableEq, Repr

/-- The faults of the machine. There is none: the spec gives every command an effect in every state. -/
inductive Fault where
  deriving DecidableEq, Repr

/-- The refusals of the machine. -/
inductive Refusal where
  /-- Raised by a dispatch arm of a command that has no meaning yet; safe. No arm of this model raises it. -/
  | notModelled (mnemonic : String)
  deriving DecidableEq, Repr

/-- The machine right after power-on has ended with RSTn high. The input lines' levels there are the model's choice
(notes/assumptions/1.md): the encoder, index and sense lines LOW, QUIESCEn and CSn HIGH. -/
def State.reset : State :=
  { pending := []
    rstn := .high
    table := ActionTable.initial
    time := Timebases.initial .low .low .low
    channels := Vector.replicate 16 Channel.initial
    senses := Vector.replicate 8 (SenseInput.initial .low)
    bindings := Vector.replicate 16 Binding.initial
    quiesce := QuiesceControl.initial .high
    attention := Attention.initial
    link := Link.initial .idle
    freeIx := 0 }

end Sys2Proof.Machine
end

