-- ==== Sys2Proof/Machine/Flags.lean ====
section
/-! DEFINITION. Every flag computation of the part: the Attention Unit's pending flags and counts, the ATTN line, the quiesced
condition, and the saturating counts of a record's outcomes. -/

namespace Sys2Proof.Machine

/-- The place of a cause in the order of R159, which is its bit in a cause set (R183). -/
def Cause.ix : Cause → Fin 11
  | .donePending => 0
  | .tableLow => 1
  | .conflict => 2
  | .spawnFail => 3
  | .missed => 4
  | .mark => 5
  | .stampOverrun => 6
  | .encFault => 7
  | .trip => 8
  | .homed => 9
  | .linkFault => 10

/-- DONE_PENDING and TABLE_LOW are level causes, the other nine event causes (R159). -/
def levelCause (k : Fin 11) : Bool := k.val < 2

/-- The flag, count and mask bit of a cause (R159). -/
def Attention.cause (a : Attention) (c : Cause) : CauseState := a.causes[c.ix]

/-- Replaces the flag, count and mask bit of a cause. -/
def Attention.put (a : Attention) (c : Cause) (x : CauseState) : Attention :=
  { a with causes := a.causes.set c.ix x c.ix.isLt }

/-- One raise of an event cause, masked or not: pending, and one more in a count that stops at 255 (R160). -/
def CauseState.raised (x : CauseState) : CauseState := { x with pending := true, count := satAdd 255 x.count 1 }

/-- A raise of an event cause (R160). -/
def Attention.raise (a : Attention) (c : Cause) : Attention := a.put c (a.cause c).raised

/-- `n` raises of one event cause in one claim, each counted (R160); none changes nothing. -/
def Attention.raiseTimes (a : Attention) (c : Cause) (n : Nat) : Attention :=
  if n = 0 then a else a.put c { a.cause c with pending := true, count := satAdd 255 (a.cause c).count n }

/-- A level condition as the table reports it: a rise is pending and counted, a fall clears the flag and keeps the count, and
a condition reported as it already stands changes nothing (R161). -/
def CauseState.reported (x : CauseState) (holds : Bool) : CauseState :=
  if holds && !x.pending then x.raised
  else if !holds then { x with pending := false }
  else x

/-- A report of a level condition (R161). -/
def Attention.report (a : Attention) (c : Cause) (holds : Bool) : Attention := a.put c ((a.cause c).reported holds)

/-- What ACK_ATTENTION does to a cause in its set: the count becomes 0, and an event cause's flag clears (R164). -/
def CauseState.acknowledged (x : CauseState) (level : Bool) : CauseState :=
  { x with count := 0, pending := level && x.pending }

/-- The ATTN line is HIGH exactly when some unmasked cause is pending (R167). -/
def Attention.attn (a : Attention) : Level :=
  if a.causes.any (fun x => x.pending && !x.masked) then .high else .low

/-- The part is quiesced while the trip latch is set or the pin mirror is LOW (R140). -/
def QuiesceControl.quiesced (q : QuiesceControl) : Bool := q.latch || q.mirror == .low

/-- The part is quiesced (R140). -/
def State.quiesced (s : State) : Bool := s.quiesce.quiesced

/-- The table is SWEEPING (R22). -/
def State.sweeping (s : State) : Bool := s.table.sweep.isSome

/-- The counts and the last outcome of a record after an outcome is recorded in it (R11, R51, R148). -/
def ActionRecord.record (r : ActionRecord) (o : LastOutcome) : ActionRecord :=
  match o with
  | .none => r
  | .fired => { r with fired := bump16 r.fired, last := .fired }
  | .merged => { r with fired := bump16 r.fired, last := .merged }
  | .late => { r with fired := bump16 r.fired, late := bump16 r.late, last := .late }
  | .conflict => { r with conflict := bump16 r.conflict, last := .conflict }
  | .missed => { r with missed := bump16 r.missed, last := .missed }

/-- `n` firings skipped in catch-up: the missed count takes each one, and the last outcome stays (R11, R150). -/
def ActionRecord.skip (r : ActionRecord) (n : Nat) : ActionRecord := { r with missed := satAdd 65535 r.missed n }

end Sys2Proof.Machine
end

