-- ==== Sys2Proof/Machine/Ops.lean ====
section
/-! DEFINITION. The named operations that several commands share: replacing one block of the state, the slots, the free pool
and the collections of the Action Table, due values and distances ahead, the completion and retirement of a record, and the
link's response queue. -/

namespace Sys2Proof.Machine

/-! ### One block of the state replaced -/

def State.setRstn (s : State) (x : Level) : State := { s with rstn := x }
def State.setTable (s : State) (x : ActionTable) : State := { s with table := x }
def State.setTime (s : State) (x : Timebases) : State := { s with time := x }
def State.setChannels (s : State) (x : Vector Channel 16) : State := { s with channels := x }
def State.setSenses (s : State) (x : Vector SenseInput 8) : State := { s with senses := x }
def State.setBindings (s : State) (x : Vector Binding 16) : State := { s with bindings := x }
def State.setQuiesce (s : State) (x : QuiesceControl) : State := { s with quiesce := x }
def State.setAttention (s : State) (x : Attention) : State := { s with attention := x }
def State.setLink (s : State) (x : Link) : State := { s with link := x }
def State.setFreeIx (s : State) (x : Nat) : State := { s with freeIx := x }

/-- One raise of an event cause (R160). -/
def State.raise (s : State) (c : Cause) : State := s.setAttention (s.attention.raise c)

/-- One channel replaced; every channel keeps its state for itself (R87). -/
def State.setChannel (s : State) (c : ChannelIx) (x : Channel) : State :=
  s.setChannels (s.channels.set c x c.isLt)

/-- One sense input replaced (R109). -/
def State.setSense (s : State) (n : SenseIx) (x : SenseInput) : State := s.setSenses (s.senses.set n x n.isLt)

/-- One binding replaced (R122). -/
def State.setBinding (s : State) (b : BindingIx) (x : Binding) : State :=
  s.setBindings (s.bindings.set b x b.isLt)

/-! ### Slots and records -/

/-- The slot `i` (R1). -/
def ActionTable.slot (t : ActionTable) (i : SlotIx) : Slot := t.slots[i]

/-- The record in slot `i`, absent where the slot is FREE (R1). -/
def ActionTable.recordAt (t : ActionTable) (i : SlotIx) : Option ActionRecord := (t.slot i).content

/-- Slot `i` replaced. -/
def ActionTable.setSlot (t : ActionTable) (i : SlotIx) (x : Slot) : ActionTable :=
  { t with slots := t.slots.set i x i.isLt }

/-- The record in slot `i` written; the slot keeps its generation (R2). -/
def ActionTable.write (t : ActionTable) (i : SlotIx) (r : ActionRecord) : ActionTable :=
  t.setSlot i { t.slot i with content := some r }

/-- The slots whose record satisfies `p`, in ascending order. -/
def ActionTable.slotsWith (t : ActionTable) (p : ActionRecord → Bool) : List SlotIx :=
  (List.finRange 128).filter (fun i => (t.recordAt i).any p)

/-- The free pool, lowest slot first (R12). -/
def ActionTable.freeSlots (t : ActionTable) : List SlotIx :=
  (List.finRange 128).filter (fun i => (t.recordAt i).isNone)

/-- The free count (R1, section 1.4). -/
def ActionTable.freeCount (t : ActionTable) : Nat := t.freeSlots.length

/-- The handle that names the record in slot `i` (R3). -/
def ActionTable.handleOf (t : ActionTable) (i : SlotIx) : Handle := { slot := i, gen := (t.slot i).gen }

def Phase.isParked : Phase → Bool
  | .parked _ => true
  | _ => false

def Phase.isArmed : Phase → Bool
  | .armed _ => true
  | _ => false

def Phase.isSuspended : Phase → Bool
  | .suspended _ => true
  | _ => false

def Phase.isDone : Phase → Bool
  | .done _ _ => true
  | _ => false

/-- PARKED, ARMED or SUSPENDED: the states in which a record locks its channel and can be retired (R8, R94). -/
def Phase.isActive (p : Phase) : Bool := !p.isDone

/-- The due value a record holds, where it holds one (R7). -/
def Phase.due : Phase → Option Word
  | .parked _ => none
  | .armed d => some d
  | .suspended d => some d
  | .done d _ => d

/-- The record is ARMED or SUSPENDED in domain `d` (R25, R29, R35, R39). -/
def ActionRecord.waitsIn (r : ActionRecord) (d : Domain) : Bool :=
  (r.phase.isArmed || r.phase.isSuspended) && r.what.base.domain == d

/-- The channel a record names (R8). -/
def ActionRecord.channel (r : ActionRecord) : Option ChannelIx :=
  match r.what.work with
  | .mark => none
  | .onChannel c _ => some c

/-- Some record is ARMED or SUSPENDED in domain `d` (R25, R29, R35, R39). -/
def ActionTable.anyWaiting (t : ActionTable) (d : Domain) : Bool := !(t.slotsWith (·.waitsIn d)).isEmpty

/-- Some PARKED, ARMED or SUSPENDED record names the channel: its configuration is locked (R8, R67). -/
def ActionTable.locks (t : ActionTable) (c : ChannelIx) : Bool :=
  !(t.slotsWith (fun r => r.phase.isActive && r.channel == some c)).isEmpty

/-! ### The grain, due values and distances ahead -/

/-- The present grain has had all of its `divisor` REFCLK periods: its tick belongs to this very instant and is still to be
taken (R24). -/
def Timebases.grainWhole (t : Timebases) : Bool := t.divisor ≤ t.grainPhase

/-- The due value that lies `offset` ahead of now in a record's domain and direction, modulo 2^32 (R91, R96, R134). -/
def aheadOf (b : Base) (tbT tbP : Word) (offset : Nat) : Word :=
  match b with
  | .time => tbT + BitVec.ofNat 32 offset
  | .position .fwd => tbP + BitVec.ofNat 32 offset
  | .position .rev => tbP - BitVec.ofNat 32 offset

/-- How far a due value lies ahead of now, counted modulo 2^32, in the record's direction for POSITION (R90, R151). -/
def distance (b : Base) (tbT tbP due : Word) : Nat :=
  match b with
  | .time => (due - tbT).toNat
  | .position .fwd => (due - tbP).toNat
  | .position .rev => (tbP - due).toNat

/-- A due value lies ahead when its distance is 1 to the horizon of its domain (R90, R151). -/
def liesAhead (b : Base) (tbT tbP due : Word) : Bool :=
  1 ≤ distance b tbT tbP due && distance b tbT tbP due ≤ Config.horizon b.domain

/-- The due value advanced by one interval: added in TIME and FWD, subtracted in REV (R56, R57, R150). -/
def advance (b : Base) (due : Word) (interval : Nat) : Word :=
  match b with
  | .position .rev => due - BitVec.ofNat 32 interval
  | _ => due + BitVec.ofNat 32 interval

/-- The key of a record in the time due order: grains ahead, fewest first, then priority, highest first, then slot, lowest
first (R18). -/
def ActionTable.dueKey (t : ActionTable) (tbT : Word) (i : SlotIx) : Nat :=
  match t.recordAt i with
  | some r =>
    match r.phase with
    | .armed d => (distance .time tbT 0 d * 4 + (3 - r.what.priority.val)) * 128 + i.val
    | _ => i.val
  | none => i.val

/-- The ARMED records of one domain: the members of the time due order, or the position set (R17). -/
def ActionTable.armedIn (t : ActionTable) (d : Domain) : List SlotIx :=
  t.slotsWith (fun r => r.phase.isArmed && r.what.base.domain == d)

/-- A slot put into a list at the place its key gives. -/
def insertByKey (key : SlotIx → Nat) (i : SlotIx) : List SlotIx → List SlotIx
  | [] => [i]
  | j :: rest => if key i ≤ key j then i :: j :: rest else j :: insertByKey key i rest

/-- The time due order, head first (R18). -/
def ActionTable.timeDueOrder (t : ActionTable) (tbT : Word) : List SlotIx :=
  (t.armedIn .time).foldr (insertByKey (t.dueKey tbT)) []

/-- The position set (R19). -/
def ActionTable.positionSet (t : ActionTable) : List SlotIx := t.armedIn .position

/-! ### Completion, retirement and freeing -/

/-- The table reports its two level conditions to the Attention Unit as they stand (R14, R21, R161). -/
def State.reportLevels (s : State) : State :=
  s.setAttention ((s.attention.report .tableLow (s.table.freeCount < s.table.lowThreshold)).report .donePending
    (!s.table.doneList.isEmpty))

/-- One record fewer in the live count of the binding a record came from (R5, R124). -/
def State.dropLive (s : State) (o : Origin) : State :=
  match o with
  | .host => s
  | .binding b _ => s.setBinding b { s.bindings[b] with live := s.bindings[b].live - 1 }

/-- Slot `i` becomes FREE: the record leaves its collection and is discarded, the generation takes its increase, and the
binding's live count follows (R2, R5). The level conditions are reported at the end of the claim. -/
def State.freeSlot (s : State) (i : SlotIx) (r : ActionRecord) : State :=
  let t := s.table.setSlot i { s.table.slot i with gen := (s.table.slot i).gen + 1, content := none }
  (s.setTable { t with suspended := t.suspended.erase i, doneList := t.doneList.erase i }).dropLive r.origin

/-- The record `r` of slot `i` becomes DONE at the tail of the done list, keeping its due value if it was ever ARMED
(R7, R21, R58, R94). -/
def State.makeDone (s : State) (i : SlotIx) (r : ActionRecord) (reason : EndReason) : State :=
  let t := s.table.write i { r with phase := .done r.phase.due reason }
  s.setTable { t with suspended := t.suspended.erase i, doneList := t.doneList ++ [i] }

/-- A record's work is over, by completion or retirement: DONE with keep, FREE without it (R9, R58, R59, R94). -/
def State.finish (s : State) (i : SlotIx) (r : ActionRecord) (reason : EndReason) : State :=
  if r.what.keep then s.makeDone i r reason else s.freeSlot i r

/-- The record of slot `i` is ARMED at a due value: it is out of the suspended list and in the collection of its domain
(R17, R18, R19). -/
def State.armAt (s : State) (i : SlotIx) (r : ActionRecord) (due : Word) : State :=
  let t := s.table.write i { r with phase := .armed due }
  s.setTable { t with suspended := t.suspended.erase i }

/-- Retires the records of several slots in the order given, each as RETIRE retires a record (R94, R97, R129). A slot whose
record is DONE, or that is FREE, is passed over. -/
def State.retireAll (s : State) (reason : EndReason) : List SlotIx → State
  | [] => s
  | i :: rest =>
    match s.table.recordAt i with
    | some r => if r.phase.isActive then (s.finish i r reason).retireAll reason rest else s.retireAll reason rest
    | none => s.retireAll reason rest

/-- A new record of a template: counts 0, last outcome NONE (R12). -/
def Template.newRecord (w : Template) (o : Origin) (group : Option Nat) (phase : Phase) : ActionRecord :=
  { origin := o, what := w, group := group, phase := phase, fired := 0, late := 0, conflict := 0, missed := 0,
    last := .none }

/-! ### Requests and replies -/

/-- A refused request: the state as it was, a result code and no payload (R88, R177). -/
def refuse (s : State) (r : Result) : State × Reply := (s, { result := r, payload := [] })

/-- An accepted request, answered OK with a payload (R177). -/
def answer (s : State) (payload : List Byte) : State × Reply := (s, { result := .ok, payload := payload })

/-- A request without payload whose payload is not one pad byte (R185) where its rules would give result `r`: the order of
the two checks is open, so a free value decides it (`Config.padFaultBefore`). -/
def padOr (code : Byte) (p : PadOnly) (r : Result) : Result :=
  match p with
  | .fits _ => r
  | .unfit => if Config.padFaultBefore code r then .badField else r

/-- A request without payload that no other check refuses: it goes on where its payload is one pad byte, and is refused
BAD_FIELD otherwise (R185). -/
def withPad (p : PadOnly) (s : State) (claim : State → State × Reply) : State × Reply :=
  match p with
  | .fits _ => claim s
  | .unfit => refuse s .badField

/-- A request whose BAD_FIELD check comes first: it goes on with its items, or is refused BAD_FIELD (R185). -/
def withItems {α : Type} (p : Payload α) (s : State) (claim : α → State → State × Reply) : State × Reply :=
  match p with
  | .fits a => claim a s
  | .unfit => refuse s .badField

/-- An entry joins the tail of the response queue (R174, R176). -/
def State.enqueue (s : State) (e : Entry) : State := s.setLink { s.link with queue := s.link.queue ++ [e] }

/-- A frame that cannot be taken while the refusal latch is set or the queue is full (step 6 of R173). -/
def Link.blocked (l : Link) : Bool := l.refusal || Config.queueCapacity ≤ l.queue.length

/-- Steps 6 and 7 of R173 for a request frame with the given tag: while RSTn is low the link takes nothing (R180); a blocked
link discards the frame and sets the refusal latch; otherwise the owner block takes its claim and the entry at the tail is
filled with its reply, or left reserved where there is none yet (R174). -/
def State.submitEntry (s : State) (tag : Byte) (claim : State → State × Option Reply) : State :=
  if s.rstn = .low then s
  else if s.link.blocked then s.setLink { s.link with refusal := true }
  else (claim s).1.enqueue { tag := tag, reply := (claim s).2 }

/-- `submitEntry` for a claim that always gives its reply in the acceptance happening (R174). -/
def State.submit (s : State) (tag : Byte) (claim : State → State × Reply) : State :=
  s.submitEntry tag (fun s => ((claim s).1, some (claim s).2))

end Sys2Proof.Machine
end

