-- ==== Sys2Proof/Machine/Formats.lean ====
section
/-! DEFINITION. The byte images that the part gives out (chapter 11): multi-byte values, record and spawn-step images, the
attention and stamp images, the status byte, the CRC and the response frame. -/

namespace Sys2Proof.Machine

/-- A timebase value or due value (R183). -/
def beWord (w : Word) : List Byte := be32 w.toNat

/-- A handle: the slot, then the generation (R183). -/
def handleBytes (h : Handle) : List Byte := [u8 h.slot.val, h.gen]

/-- A handle, or FFh FFh where it is absent (R184). -/
def optHandleBytes : Option Handle → List Byte
  | some h => handleBytes h
  | none => [0xFF, 0xFF]

/-- Result code bytes (R181). -/
def resultByte : Result → Byte
  | .ok => 0x00
  | .full => 0x01
  | .stale => 0x02
  | .state => 0x03
  | .busy => 0x04
  | .badField => 0x05
  | .range => 0x06
  | .empty => 0x07
  | .unknown => 0x08

/-- State bytes: 1 PARKED, 2 ARMED, 3 SUSPENDED, 4 DONE (R183). -/
def phaseCode : Phase → Nat
  | .parked _ => 1
  | .armed _ => 2
  | .suspended _ => 3
  | .done _ _ => 4

/-- The state byte of a slot, 0 for FREE (R183). -/
def slotCode (t : ActionTable) (i : SlotIx) : Nat :=
  match t.recordAt i with
  | some r => phaseCode r.phase
  | none => 0

/-- The code of a kind (Table 11-2, byte 1). -/
def workCode : Work → Nat
  | .onChannel _ .assert => 0
  | .onChannel _ .release => 1
  | .onChannel _ .toggle => 2
  | .onChannel _ (.pulse _) => 3
  | .onChannel _ (.burst _) => 4
  | .mark => 5

/-- The channel of a work as an image shows it, 0 for MARK (Table 11-2, byte 2). -/
def channelCode : Work → Nat
  | .mark => 0
  | .onChannel c _ => c.val

/-- Domain, direction, keep and miss policy as bits 4 to 7 of record byte 0 (Table 11-2). -/
def templateBits (w : Template) : Nat :=
  (match w.base with
    | .time => 0
    | .position .fwd => 16
    | .position .rev => 48)
  + 64 * bit w.keep + 128 * bit (w.miss == .hold)

/-- The repeat field's code: 0 absent, 1 counted, 2 endless (Table 11-2, byte 1). -/
def repeatCode : Option Repeat → Nat
  | none => 0
  | some { interval := _, remaining := some _ } => 1
  | some { interval := _, remaining := none } => 2

/-- Kind, priority and repeat as bits 0 to 6 of record byte 1 (Table 11-2). -/
def kindBits (w : Template) : Nat := workCode w.work + 8 * w.priority.val + 32 * repeatCode w.rep

/-- Record bytes 7 to 12: the interval, and the remaining count, 0 where absent or endless (Table 11-2). -/
def repeatBytes : Option Repeat → List Byte
  | none => be32 0 ++ be16 0
  | some r => be32 r.interval ++ be16 (r.remaining.getD 0)

/-- Record bytes 13 to 16: width or cycles, then the carrier (Table 11-2). -/
def workBytes : Work → List Byte
  | .onChannel _ (.pulse w) => be16 w ++ [0, 0]
  | .onChannel _ (.burst b) => be16 b.cycles ++ [u8 b.high, u8 b.low]
  | _ => [0, 0, 0, 0]

/-- Record bytes 3 to 6: the due value, or a PARKED record's offset, or 0 (Table 11-2, R184). -/
def dueBytes : Phase → List Byte
  | .parked n => be32 n
  | .armed d => beWord d
  | .suspended d => beWord d
  | .done (some d) _ => beWord d
  | .done none _ => be32 0

/-- Bit 7 of record byte 1: a due value or offset is absent (R184). -/
def dueAbsent : Phase → Bool
  | .done none _ => true
  | _ => false

def outcomeCode : LastOutcome → Nat
  | .none => 0
  | .fired => 1
  | .merged => 2
  | .late => 3
  | .conflict => 4
  | .missed => 5

/-- The end reason's code, 0 where the record is not DONE (Table 11-2, byte 30). -/
def endCode : Phase → Nat
  | .done _ .completed => 1
  | .done _ .retired => 2
  | .done _ .groupRetired => 3
  | .done _ .bindingRetired => 4
  | _ => 0

/-- Record bytes 19 to 21: the origin and the ordinal (Table 11-2); bits 6 to 4 of byte 19, and for HOST its bits 3 to 0, are
shown as 0 (notes/assumptions/21.md). -/
def originBytes : Origin → List Byte
  | .host => 0 :: be16 0
  | .binding b n => u8 (128 + b.val) :: be16 n

/-- The record image, 31 bytes (R98, R157, Table 11-2); bits 7 and 6 of byte 30 are shown as 0 (notes/assumptions/21.md). -/
def recordImage (h : Handle) (r : ActionRecord) : List Byte :=
  [u8 (phaseCode r.phase + templateBits r.what), u8 (kindBits r.what + 128 * bit (dueAbsent r.phase)),
    u8 (channelCode r.what.work + 16 * r.group.getD 0)]
  ++ dueBytes r.phase ++ repeatBytes r.what.rep ++ workBytes r.what.work ++ handleBytes h ++ originBytes r.origin
  ++ be16 r.fired ++ be16 r.late ++ be16 r.conflict ++ be16 r.missed
  ++ [u8 (outcomeCode r.last + 8 * endCode r.phase)]

/-- A spawn-step image's parameters: the width, or the carrier and the cycles (Table 11-3). -/
def stepWorkBytes : Work → List Byte
  | .onChannel _ (.pulse w) => be16 w
  | .onChannel _ (.burst b) => [u8 b.high, u8 b.low] ++ be16 b.cycles
  | _ => []

/-- A spawn-step image's repeat: the interval, then the remaining count if counted (Table 11-3). -/
def stepRepeatBytes : Option Repeat → List Byte
  | none => []
  | some { interval := n, remaining := some k } => be32 n ++ be16 k
  | some { interval := n, remaining := none } => be32 n

/-- A spawn-step image, 6 to 16 bytes (Table 11-3). -/
def stepImage (x : SpawnStep) : List Byte :=
  [u8 (channelCode x.what.work + templateBits x.what), u8 (kindBits x.what)] ++ be32 x.offset
  ++ stepWorkBytes x.what.work ++ stepRepeatBytes x.what.rep

/-- The bits of the causes that satisfy `p`, DONE_PENDING at bit 0, as two bytes (R183). -/
def causeBits (a : Attention) (p : CauseState → Bool) : List Byte :=
  be16 ((List.finRange 11).foldr (fun k n => n + (if p a.causes[k] then 2 ^ k.val else 0)) 0)

/-- The attention image, 17 bytes (R163, Table 11-4). -/
def attentionImage (a : Attention) : List Byte :=
  causeBits a (·.pending) ++ causeBits a (·.masked) ++ a.causes.toList.map (fun x => u8 x.count)
  ++ optHandleBytes a.lastMark

def polarityCode : Option Polarity → Nat
  | none => 0
  | some .rise => 1
  | some .fall => 2

/-- The stamp image, 10 bytes (R119, Table 11-4); bits 7 to 4 of byte 9 are shown as 0 (notes/assumptions/21.md). -/
def stampImage (n : SenseIx) (x : SenseInput) : List Byte :=
  [u8 n.val] ++ beWord x.stampT ++ beWord x.stampP
  ++ [u8 (polarityCode x.polarity + 4 * bit x.unread + 8 * bit x.overrun)]

def chanStateCode : ChanState → Nat
  | .rest => 0
  | .asserted => 1
  | .pulse _ _ _ => 2
  | .burst _ _ _ _ _ _ _ => 3
  | .safe => 4

/-- The configuration byte with the line level in bit 7. Table 11-1 gives bits 6 to 4 no meaning and no value; that they are
shown as 0 is the model's choice (notes/assumptions/21.md). -/
def configByte (c : Channel) : Byte :=
  u8 (levelBit c.rest + 2 * safeCode c.safe + 8 * bit (c.policy == .merge) + 128 * levelBit c.line)

/-- The in-flight priority and handle, absent as 0 and FFh FFh, and what remains: a pulse's grains, 1 to 65535, or a burst's
cycles (R69, R184). Outside that range stand only the instants of a tick: a pulse whose end tick has come but whose end is still
to be taken shows the value before that tick, 1, and one of the greatest width begun ahead of a tick of the same instant shows
the value after that tick, 65535 (notes/assumptions/8.md). -/
def inFlightBytes : ChanState → List Byte
  | .pulse q h g => u8 q.val :: handleBytes h ++ be16 (min 65535 (max 1 g))
  | .burst q h _ _ n _ _ => u8 q.val :: handleBytes h ++ be16 n
  | _ => 0 :: optHandleBytes none ++ be16 0

/-- The payload of CHAN_READ (R69, Table 11-1). -/
def channelImage (c : Channel) : List Byte :=
  [u8 (chanStateCode c.state), configByte c] ++ inFlightBytes c.state
  ++ be16 c.conflicts ++ be16 c.merges ++ be16 c.preemptions

def failCode : Option FailCause → Nat
  | none => 0
  | some .pool => 1
  | some .tbStopped => 2
  | some .homing => 3
  | some .sweep => 4

/-- The payload of BIND_READ (R130, R184, Table 11-1). -/
def bindingImage (b : BindingIx) (x : Binding) : List Byte :=
  [u8 b.val, u8 x.input.val, u8 (bit x.enabled)] ++ be16 x.ordinal ++ [u8 x.live] ++ be16 x.fails
  ++ [u8 (failCode x.lastFail), u8 x.steps.length] ++ x.steps.flatMap stepImage

/-- One bit of the CRC register, most significant bit first: x^8 + x^2 + x + 1, neither reflected nor inverted (R172). -/
def crcShift (r : Byte) : Byte := if r.msb then (r <<< 1) ^^^ 0x07 else r <<< 1

/-- The CRC-8 register after one more byte (R172). -/
def crcByte (r b : Byte) : Byte :=
  crcShift (crcShift (crcShift (crcShift (crcShift (crcShift (crcShift (crcShift (r ^^^ b))))))))

/-- The CRC-8 of a list of bytes, from 00h (R172). -/
def crc8 (bytes : List Byte) : Byte := bytes.foldl crcByte 0

/-- The response frame of a filled entry: length, tag, result, payload, CRC (R177, R181). -/
def responseFrame (tag : Byte) (r : Reply) : List Byte :=
  let body := tag :: resultByte r.result :: r.payload
  u8 (3 + r.payload.length) :: body ++ [crc8 body]

/-- The queue field of the status byte: PEND, and PEND plus 3 where RDY is set while the table is SWEEPING (R182). -/
def queueField (sweep rdy : Bool) (pend : Nat) : Nat := if sweep && rdy then pend + 3 else pend

/-- The status byte (R170, R182). -/
def statusByte (sweep rdy : Bool) (pend : Nat) (refused fault : Bool) (attn : Level) (quiesced : Bool) : Byte :=
  u8 (128 * bit sweep + 16 * queueField sweep rdy pend + 8 * bit refused + 4 * bit fault + 2 * levelBit attn + bit quiesced)

end Sys2Proof.Machine
end

