-- ==== Sys2Proof/Machine/Operands.lean ====
section
/-! DEFINITION. Every operand form of the requests: which items make a well-formed record, spawn step or amendment, and the
checks of a handle. -/

namespace Sys2Proof.Machine

/-- A number as an index below `n`, where it is one. -/
def finOf (n x : Nat) : Option (Fin n) := if h : x < n then some ⟨x, h⟩ else none

/-- A burst in range: carrier high and low 1 to 255, cycles 1 to 4095 (R89). -/
def burstInRange (b : BurstItems) : Bool :=
  1 ≤ b.high && b.high ≤ 255 && 1 ≤ b.low && b.low ≤ 255 && 1 ≤ b.cycles && b.cycles ≤ 4095

/-- A pulse width in range: 1 to 65535 grains (R89). -/
def widthInRange (w : Nat) : Bool := 1 ≤ w && w ≤ 65535

/-- A distance in range: 1 to the horizon of its domain (R89, R123). -/
def distanceInRange (d : Domain) (n : Nat) : Bool := 1 ≤ n && n ≤ Config.horizon d

/-- A repeat that is well formed for a domain: its interval in range, with a remaining count 0 to 65535 or endless (R89). -/
def checkRepeatItems (r : RepeatItems) (d : Domain) : Option Repeat :=
  if distanceInRange d r.interval then
    match r.run with
    | some (.counted n) => if n ≤ 65535 then some { interval := r.interval, remaining := some n } else none
    | some .endless => some { interval := r.interval, remaining := none }
    | none => none
  else none

/-- The base that a domain and a direction make: the direction is required for POSITION and forbidden for TIME (R89). -/
def checkBase : Domain → Option Dir → Option Base
  | .time, none => some .time
  | .position, some d => some (.position d)
  | _, _ => none

/-- The work that a kind, channel, width and burst make, each required or forbidden as the kind says (R89). -/
def checkWork (kind : Kind) (channel width : Option Nat) (burst : Option BurstItems) : Option Work :=
  match kind, channel, width, burst with
  | .mark, none, none, none => some .mark
  | .assert, some c, none, none => (finOf 16 c).map (.onChannel · .assert)
  | .release, some c, none, none => (finOf 16 c).map (.onChannel · .release)
  | .toggle, some c, none, none => (finOf 16 c).map (.onChannel · .toggle)
  | .pulse, some c, some w, none => if widthInRange w then (finOf 16 c).map (.onChannel · (.pulse w)) else none
  | .burst, some c, none, some b =>
    if burstInRange b then (finOf 16 c).map (.onChannel · (.burst { high := b.high, low := b.low, cycles := b.cycles }))
    else none
  | _, _, _, _ => none

/-- The repeat field that an optional repeat item makes (R89). -/
def checkRepeat (d : Domain) : Option RepeatItems → Option (Option Repeat)
  | none => some none
  | some r => (checkRepeatItems r d).map some

/-- The template that the items of an ARM or a spawn step make, where they meet the field rules of R89 and R123. -/
def checkRecord (i : RecordItems) : Option Template :=
  match checkBase i.domain i.direction, checkWork i.kind i.channel i.width i.burst, finOf 4 i.priority,
      checkRepeat i.domain i.rep with
  | some base, some work, some priority, some rep =>
    some { base := base, work := work, priority := priority, rep := rep, keep := i.keep, miss := i.miss }
  | _, _, _, _ => none

/-- An ARM whose items have passed R89. -/
structure ArmSpec where
  start : Start
  form : DueForm
  value : Word
  what : Template
  group : Option Nat
  deriving DecidableEq, Repr

/-- A group in range: absent, or 1 to 15 (R89). -/
def groupInRange : Option Nat → Bool
  | none => true
  | some g => 1 ≤ g && g ≤ 15

/-- The checks of R89: the template's own, an OFFSET within the horizon, and for start PARKED an OFFSET and a group. -/
def checkArm (a : ArmItems) : Option ArmSpec :=
  match checkRecord a.items, a.value with
  | some w, some v =>
    if (a.form == .absolute || distanceInRange w.base.domain v.toNat) && groupInRange a.group
        && (a.start == .armed || (a.form == .offset && a.group.isSome)) then
      some { start := a.start, form := a.form, value := v, what := w, group := a.group }
    else none
  | _, _ => none

/-- The due value an ARM or AMEND gives: an OFFSET ahead of now, or the ABSOLUTE value (R91, R93). -/
def formDue (s : State) (b : Base) (form : DueForm) (v : Word) : Word :=
  match form with
  | .offset => aheadOf b s.time.tbT s.time.tbP v.toNat
  | .absolute => v

/-- An ABSOLUTE due that does not lie 1 to the horizon ahead of now (R90, R92). -/
def outOfHorizon (s : State) (b : Base) (form : DueForm) (v : Word) : Bool :=
  form == .absolute && !liesAhead b s.time.tbT s.time.tbP v

/-- A spawn step that meets R123. -/
def checkStep (x : StepItems) : Option SpawnStep :=
  match checkRecord x.items with
  | some w => if distanceInRange w.base.domain x.offset then some { what := w, offset := x.offset } else none
  | none => none

/-- A list of steps, each of which meets R123. -/
def checkSteps : List StepItems → Option (List SpawnStep)
  | [] => some []
  | x :: rest =>
    match checkStep x, checkSteps rest with
    | some y, some ys => some (y :: ys)
    | _, _ => none

/-- The handle checks of R3, in order: the slot number, the sweep, then whether the handle names a record. -/
def checkHandle (s : State) (h : HandleItems) : Except Result (SlotIx × ActionRecord) :=
  match finOf 128 h.slot.toNat with
  | none => .error .badField
  | some i =>
    if s.sweeping then .error .busy
    else
      match s.table.recordAt i with
      | some r => if (s.table.slot i).gen = h.gen then .ok (i, r) else .error .stale
      | none => .error .stale

/-- The record's action with an amended width or burst (R92, R93). -/
def amendWork (b : AmendBody) : Work → Work
  | .onChannel c (.pulse w) => .onChannel c (.pulse (b.width.getD w))
  | .onChannel c (.burst old) =>
    .onChannel c (.burst (match b.burst with
      | some x => { high := x.high, low := x.low, cycles := x.cycles }
      | none => old))
  | w => w

/-- The body carries at least one amendable item (R92). -/
def amendCarriesItem (b : AmendBody) : Bool :=
  b.due.isSome || b.width.isSome || b.burst.isSome || b.priority.isSome || b.rep.isSome || b.keep.isSome || b.miss.isSome
    || b.group.isSome

/-- The width item suits the record: a PULSE record and a width in range (R92). -/
def amendWidthOk (w : Work) : Option Nat → Bool
  | none => true
  | some n =>
    match w with
    | .onChannel _ (.pulse _) => widthInRange n
    | _ => false

/-- The burst item suits the record: a BURST record and a burst in range (R92). -/
def amendBurstOk (w : Work) : Option BurstItems → Bool
  | none => true
  | some x =>
    match w with
    | .onChannel _ (.burst _) => burstInRange x
    | _ => false

/-- The due item suits the record: an OFFSET in range, and no ABSOLUTE for a PARKED record (R92). -/
def amendDueOk (r : ActionRecord) : Option (DueForm × Word) → Bool
  | none => true
  | some (.offset, v) => distanceInRange r.what.base.domain v.toNat
  | some (.absolute, _) => !r.phase.isParked

/-- The repeat item is in range for the record's domain (R92). -/
def amendRepeatOk (d : Domain) : Option RepeatChange → Bool
  | none => true
  | some .remove => true
  | some (.set x) => (checkRepeatItems x d).isSome

/-- The group item: 1 to 15, or 0, which asks to remove the group and is BAD_FIELD for a PARKED record (R92, R185). -/
def amendGroupOk (p : Phase) : Option Nat → Bool
  | none => true
  | some g => g ≤ 15 && !(g == 0 && p.isParked)

/-- The BAD_FIELD check of R92 against a record. -/
def amendFieldsOk (b : AmendBody) (r : ActionRecord) : Bool :=
  amendCarriesItem b && !b.namesFixed && amendDueOk r b.due && amendWidthOk r.what.work b.width
    && amendBurstOk r.what.work b.burst && (b.priority.getD 0 ≤ 3) && amendRepeatOk r.what.base.domain b.rep
    && amendGroupOk r.phase b.group

/-- The record's template with every item but the due replaced that the body carries (R93). -/
def amendTemplate (b : AmendBody) (w : Template) : Template :=
  { base := w.base
    work := amendWork b w.work
    priority := (b.priority.bind (finOf 4)).getD w.priority
    rep := match b.rep with
      | none => w.rep
      | some .remove => none
      | some (.set x) => checkRepeatItems x w.base.domain
    keep := b.keep.getD w.keep
    miss := b.miss.getD w.miss }

end Sys2Proof.Machine
end

