-- ==== Sys2Proof/Machine/Attention.lean ====
section
/-! DEFINITION. Completion and attention (chapter 9): COLLECT, READ_ATTENTION, ACK_ATTENTION and SET_MASK. -/

namespace Sys2Proof.Machine

/-- A DONE record collected: its slot becomes FREE, and the answer is its image as it stood (R157). -/
def State.collect (s : State) (i : SlotIx) (r : ActionRecord) : State × Reply :=
  answer (s.freeSlot i r).reportLevels (recordImage (s.table.handleOf i) r)

/-- COLLECT without a handle: the head of the done list (R155). -/
def collectHead (s : State) : State × Reply :=
  if s.sweeping then refuse s .busy
  else
    match s.table.doneList with
    | [] => refuse s .empty
    | i :: _ =>
      match s.table.recordAt i with
      | some r => s.collect i r
      | none => refuse s .empty

/-- COLLECT with a handle: the DONE record it names (R156). -/
def collectNamed (h : HandleItems) (s : State) : State × Reply :=
  match checkHandle s h with
  | .error e => refuse s e
  | .ok (i, r) => if r.phase.isDone then s.collect i r else refuse s .state

/-- COLLECT's claim (R155, R156). -/
def collectClaim (h : Option HandleItems) (s : State) : State × Reply :=
  match h with
  | none => collectHead s
  | some h => collectNamed h s

/-- COLLECT (R155, R156, R157). -/
def execCollect (tag : Byte) (p : Payload (Option HandleItems)) (s : State) : Host.Outcome State Fault Refusal :=
  .next (s.submit tag (fun s => withItems p s collectClaim))

/-- READ_ATTENTION (R163). -/
def execReadAttention (tag : Byte) (p : PadOnly) (s : State) : Host.Outcome State Fault Refusal :=
  .next (s.submit tag (fun s => withPad p s (fun s => answer s (attentionImage s.attention))))

/-- The cause at place `k` is in the set (R164, R183). -/
def inSet (set : CauseSet) (k : Nat) : Bool := set.getLsbD k

/-- ACK_ATTENTION at the unit: every cause in the set acknowledged (R164). -/
def Attention.ack (a : Attention) (set : CauseSet) : Attention :=
  { a with causes := Vector.ofFn (fun k : Fin 11 =>
      if inSet set k.val then a.causes[k].acknowledged (levelCause k) else a.causes[k]) }

/-- ACK_ATTENTION's claim (R164). -/
def ackClaim (set : CauseSet) (s : State) : State × Reply := answer (s.setAttention (s.attention.ack set)) []

/-- ACK_ATTENTION (R164). -/
def execAckAttention (tag : Byte) (p : Payload CauseSet) (s : State) : Host.Outcome State Fault Refusal :=
  .next (s.submit tag (fun s => withItems p s ackClaim))

/-- SET_MASK at the unit: the causes in the set masked, every other unmasked (R166). -/
def Attention.mask (a : Attention) (set : CauseSet) : Attention :=
  { a with causes := Vector.ofFn (fun k : Fin 11 => { a.causes[k] with masked := inSet set k.val }) }

/-- SET_MASK's claim (R166). -/
def maskClaim (set : CauseSet) (s : State) : State × Reply := answer (s.setAttention (s.attention.mask set)) []

/-- SET_MASK (R166). -/
def execSetMask (tag : Byte) (p : Payload CauseSet) (s : State) : Host.Outcome State Fault Refusal :=
  .next (s.submit tag (fun s => withItems p s maskClaim))

end Sys2Proof.Machine
end

