-- ==== Sys2Proof/Machine/Channels.lean ====
section
/-! DEFINITION. The output channels (chapter 4): taking a firing, the ends of actions in flight, SAFE, and the commands
PULSE_END, BURST_PHASE_CHANGE, CHAN_CONFIG and CHAN_READ. -/

namespace Sys2Proof.Machine

/-- A firing: the action with its parameters, the priority and the handle (R48, R148). As a channel takes it, a pulse's width
is the number of ticks still to come up to its end (`State.timed`). -/
structure Firing where
  action : ChanAction
  priority : Fin 4
  handle : Handle
  deriving DecidableEq, Repr

/-- What a channel made of a firing (R70). -/
inductive Verdict where
  | fired
  | merged
  | conflict
  deriving DecidableEq, Repr

/-- The active level: the opposite of the rest level (R65). -/
def Channel.active (c : Channel) : Level := c.rest.flip

/-- The channel in REST, its line at the rest level (R65). -/
def Channel.toRest (c : Channel) : Channel := { c with state := .rest, line := c.rest }

/-- The channel in ASSERTED, its line at the active level (R65). -/
def Channel.toAsserted (c : Channel) : Channel := { c with state := .asserted, line := c.active }

/-- The steady state that the line level gives: ASSERTED at the active level, REST at the rest level (R76, R83). -/
def Channel.settleFromLine (c : Channel) : Channel :=
  { c with state := if c.line = c.active then .asserted else .rest }

/-- A firing applied to a channel in REST or ASSERTED (R72, R73, R74). -/
def Channel.apply (c : Channel) (f : Firing) : Channel :=
  match f.action with
  | .assert => c.toAsserted
  | .release => c.toRest
  | .toggle => if c.state = .asserted then c.toRest else c.toAsserted
  | .pulse w => { c with state := .pulse f.priority f.handle w, line := c.active }
  | .burst b => { c with state := .burst f.priority f.handle .high b.high b.cycles b.high b.low, line := c.active }

/-- A firing not merged that meets an action in flight of priority `q`: a higher priority pre-empts it, taking the steady
state of the line level first (R76); an equal or lower one is refused (R77). -/
def Channel.contest (c : Channel) (f : Firing) (q : Fin 4) : Channel × Verdict :=
  if q < f.priority then ({ c.settleFromLine with preemptions := bump16 c.preemptions }.apply f, .fired)
  else ({ c with conflicts := bump16 c.conflicts }, .conflict)

/-- A channel takes a firing and gives its verdict (R70). A PULSE that meets a PULSE on a MERGE channel is merged: the later
of the two ends, the higher of the two priorities, the handle of the firing that began the pulse (R75). No firing reaches a
SAFE channel (R81); that arm is reached from no run, and changes nothing. -/
def Channel.take (c : Channel) (f : Firing) : Channel × Verdict :=
  match c.state with
  | .rest => (c.apply f, .fired)
  | .asserted => (c.apply f, .fired)
  | .pulse q h g =>
    match f.action, c.policy with
    | .pulse w, .merge =>
      ({ c with state := .pulse (max f.priority q) h (max g w), merges := bump16 c.merges }, .merged)
    | _, _ => c.contest f q
  | .burst q _ _ _ _ _ _ => c.contest f q
  | .safe => (c, .conflict)

/-- The line of a SAFE channel: its safe level, read from the configuration as it stands (R67, R81). -/
def Channel.safeLine (c : Channel) : Level :=
  match c.safe with
  | .rest => c.rest
  | .active => c.active
  | .keep => c.line

/-- Quiesce entry at a channel: any action in flight is abandoned and the line takes the safe level (R81). -/
def Channel.enterSafe (c : Channel) : Channel := { c with state := .safe, line := c.safeLine }

/-- Quiesce exit at a channel: the steady state that the line level gives (R83). -/
def Channel.leaveSafe (c : Channel) : Channel := c.settleFromLine

/-- A grain tick brings a pulse in flight one grain nearer its end (R24, R73). -/
def Channel.tick (c : Channel) : Channel :=
  match c.state with
  | .pulse q h g => { c with state := .pulse q h (g - 1) }
  | _ => c

/-- The channel holds a pulse whose end tick has been reached (R78). -/
def Channel.endReached (c : Channel) : Bool :=
  match c.state with
  | .pulse _ _ 0 => true
  | _ => false

/-- The end of a pulse whose end tick has been reached: REST, the line at the rest level (R78). -/
def Channel.endPulse (c : Channel) : Channel := if c.endReached then c.toRest else c

/-- The channel holds a burst whose phase has no period left (R79). -/
def Channel.phaseOver (c : Channel) : Bool :=
  match c.state with
  | .burst _ _ _ 0 _ _ _ => true
  | _ => false

/-- A burst's phase whose periods have run out: HIGH gives LOW; LOW gives HIGH with one cycle fewer while more than one
remains, and ends the burst in REST after the last (R79). A phase with periods left, such as the first of a burst that has
just pre-empted another, does not change (R80). -/
def Channel.phaseChange (c : Channel) : Channel :=
  match c.state with
  | .burst q h .high 0 n hi lo => { c with state := .burst q h .low lo n hi lo, line := c.rest }
  | .burst q h .low 0 n hi lo =>
    if 1 < n then { c with state := .burst q h .high hi (n - 1) hi lo, line := c.active } else c.toRest
  | _ => c

/-- One REFCLK period passes at a channel: a burst's phase has one period fewer left (R64, R79). -/
def Channel.period (c : Channel) : Channel :=
  match c.state with
  | .burst q h p k n hi lo => { c with state := .burst q h p (k - 1) n hi lo }
  | _ => c

/-- A PULSE in flight (R25). -/
def Channel.pulsing (c : Channel) : Bool :=
  match c.state with
  | .pulse _ _ _ => true
  | _ => false

/-- A PULSE or BURST in flight (R65). -/
def Channel.inFlight (c : Channel) : Bool :=
  match c.state with
  | .pulse _ _ _ => true
  | .burst _ _ _ _ _ _ _ => true
  | _ => false

/-- The line after CHAN_CONFIG, driven again by the state under the new configuration (R67). -/
def Channel.redrive (c : Channel) : Channel :=
  match c.state with
  | .rest => { c with line := c.rest }
  | .asserted => { c with line := c.active }
  | .safe => { c with line := c.safeLine }
  | _ => c

/-- The three configuration items replaced and the line driven again (R67). -/
def Channel.configure (c : Channel) (rest : Level) (safe : SafeLevel) (policy : Policy) : Channel :=
  { c with rest := rest, safe := safe, policy := policy }.redrive

/-- An action as it is counted from this instant. A pulse ends at the w-th tick after it begins, and a tick of the very instant
of its beginning is not counted: where that tick is still to come, one more comes before the end (R73, R75). -/
def ChanAction.timed (tickToCome : Bool) : ChanAction → ChanAction
  | .pulse w => .pulse (if tickToCome then w + 1 else w)
  | a => a

/-- A firing as a channel counts it at this instant (R73, R75). -/
def State.timed (s : State) (f : Firing) : Firing := { f with action := f.action.timed s.time.grainWhole }

/-- A firing at channel `c` of the part: the channel takes it, and a refusal raises CONFLICT once (R70, R77). -/
def State.fire (s : State) (c : ChannelIx) (f : Firing) : State × Verdict :=
  let x := (s.channels[c]).take (s.timed f)
  let s1 := s.setChannel c x.1
  (if x.2 = .conflict then s1.raise .conflict else s1, x.2)

/-- The outcome the table records for a verdict of a falling due (R51). -/
def Verdict.outcome : Verdict → LastOutcome
  | .fired => .fired
  | .merged => .merged
  | .conflict => .conflict

/-- The outcome the table records for a verdict of a release at quiesce exit (R148). -/
def Verdict.releaseOutcome : Verdict → LastOutcome
  | .fired => .late
  | .merged => .late
  | .conflict => .conflict

/-- PULSE_END (R78). Nothing ends while RSTn is low, or before the end tick is reached. -/
def execPulseEnd (c : ChannelIx) (s : State) : Host.Outcome State Fault Refusal :=
  .next (if s.rstn = .low then s else s.setChannel c (s.channels[c]).endPulse)

/-- BURST_PHASE_CHANGE (R79). Nothing changes while RSTn is low, without a burst, or while its phase has periods left. -/
def execBurstPhaseChange (c : ChannelIx) (s : State) : Host.Outcome State Fault Refusal :=
  .next (if s.rstn = .low then s else s.setChannel c (s.channels[c]).phaseChange)

/-- CHAN_CONFIG: the checks of R67 in order, then the new configuration. -/
def chanConfigClaim (a : ChanConfigItems) (s : State) : State × Reply :=
  match finOf 16 a.channel with
  | none => refuse s .badField
  | some c =>
    if (s.channels[c]).inFlight then refuse s .busy
    else if s.table.locks c then refuse s .busy
    else answer (s.setChannel c ((s.channels[c]).configure a.rest a.safe a.policy)) []

/-- CHAN_CONFIG (R67). -/
def execChanConfig (tag : Byte) (p : Payload ChanConfigItems) (s : State) : Host.Outcome State Fault Refusal :=
  .next (s.submit tag (fun s => withItems p s chanConfigClaim))

/-- CHAN_READ's claim (R69). -/
def chanReadClaim (n : Nat) (s : State) : State × Reply :=
  match finOf 16 n with
  | none => refuse s .badField
  | some c => answer s (channelImage s.channels[c])

/-- CHAN_READ (R69). -/
def execChanRead (tag : Byte) (p : Payload Nat) (s : State) : Host.Outcome State Fault Refusal :=
  .next (s.submit tag (fun s => withItems p s chanReadClaim))

end Sys2Proof.Machine
end

