-- ==== Sys2Proof/Machine/FallingDue.lean ====
section
/-! DEFINITION. Falling due (chapter 3): which records are due, the claims, the branches by kind, quiesce and miss policy,
repetition and completion, and the command FALLING_DUE. -/

namespace Sys2Proof.Machine

/-- The record has been reached by its timebase and its claim is still to be taken: an ARMED TIME record whose due value is
TB-T, or an ARMED POSITION record whose due value is TB-P and whose direction is that of the last step (R42, R43). -/
def isDue (t : Timebases) (r : ActionRecord) : Bool :=
  match r.phase with
  | .armed d =>
    match r.what.base with
    | .time => d == t.tbT
    | .position dir => t.lastDir == some dir && d == t.tbP
  | _ => false

/-- The priority of the record in slot `i`. -/
def ActionTable.priorityAt (t : ActionTable) (i : SlotIx) : Option (Fin 4) := (t.recordAt i).map (·.what.priority)

/-- The tie order of a claim: priority highest first, then slot lowest first (R49, R71). -/
def ActionTable.tieOrder (t : ActionTable) (l : List SlotIx) : List SlotIx :=
  [(3 : Fin 4), 2, 1, 0].flatMap (fun p => l.filter (fun i => t.priorityAt i == some p))

/-- The channel that the record in slot `i` names; absent for a MARK and for a FREE slot. -/
def ActionTable.channelAt (t : ActionTable) (i : SlotIx) : Option ChannelIx := (t.recordAt i).bind (·.channel)

/-- The slots of one domain whose record is due, its claim still to be taken (R42, R43). -/
def State.dueSlots (s : State) (d : Domain) : List SlotIx :=
  s.table.slotsWith (fun r => isDue s.time r && r.what.base.domain == d)

/-- The slots that a claim covers, in the order the table takes them: every record due in one domain on one channel, or one
MARK record (R44, R49, R50). -/
def State.claimSlots (s : State) : DueClaim → List SlotIx
  | .channel d c => s.table.tieOrder ((s.dueSlots d).filter (fun i => s.table.channelAt i == some c))
  | .mark i =>
    match s.table.recordAt i with
    | some r => if isDue s.time r && r.what.work == .mark then [i] else []
    | none => []

/-- The record of slot `i` replaced, its state and collections as they were. -/
def State.putRecord (s : State) (i : SlotIx) (r : ActionRecord) : State := s.setTable (s.table.write i r)

/-- The repeat field after one more firing (R55). -/
def Repeat.spend (x : Repeat) : Repeat := { x with remaining := x.remaining.map (· - 1) }

/-- A record falling due at `due` proceeds: armed again one interval on where repetition remains, and completed otherwise
(R55, R56, R57, R58, R59). -/
def State.proceed (s : State) (i : SlotIx) (r : ActionRecord) (due : Word) : State :=
  match r.what.rep with
  | none => s.finish i r .completed
  | some x =>
    if x.remaining = some 0 then s.finish i r .completed
    else s.armAt i { r with what := { r.what with rep := some x.spend } } (advance r.what.base due x.interval)

/-- The MARK branch: MARK is raised with the record's handle and FIRED is recorded, quiesced or not (R46, R162). -/
def State.mark (s : State) (h : Handle) : State :=
  s.setAttention { s.attention.raise .mark with lastMark := some h }

/-- The HOLD branch: the record becomes SUSPENDED at the tail of the suspended list, nothing else of it changed (R53). -/
def State.suspend (s : State) (i : SlotIx) (r : ActionRecord) (due : Word) : State :=
  let t := s.table.write i { r with phase := .suspended due }
  s.setTable { t with suspended := t.suspended ++ [i] }

/-- The record `r` of slot `i` falls due at `due`: its branch, its outcome, and repetition or completion (R44, R46, R48,
R51, R52, R53). -/
def State.fallDue (s : State) (i : SlotIx) (r : ActionRecord) (due : Word) : State :=
  match r.what.work with
  | .mark => (s.mark (s.table.handleOf i)).proceed i (r.record .fired) due
  | .onChannel c a =>
    if s.quiesced then
      match r.what.miss with
      | .drop => (s.raise .missed).proceed i (r.record .missed) due
      | .hold => s.suspend i r due
    else
      let x := s.fire c { action := a, priority := r.what.priority, handle := s.table.handleOf i }
      x.1.proceed i (r.record x.2.outcome) due

/-- Falls the record of slot `i` due, where it is ARMED. -/
def State.fallDueAt (s : State) (i : SlotIx) : State :=
  match s.table.recordAt i with
  | some r =>
    match r.phase with
    | .armed d => s.fallDue i r d
    | _ => s
  | none => s

/-- A falling-due claim, taken whole: its records in order, then the level conditions (R44, R61). -/
def State.takeClaim (s : State) (c : DueClaim) : State := ((s.claimSlots c).foldl State.fallDueAt s).reportLevels

/-- FALLING_DUE (R44). A claim that covers no due record changes nothing. -/
def execFallingDue (c : DueClaim) (s : State) : Host.Outcome State Fault Refusal :=
  .next (if s.rstn = .low then s else s.takeClaim c)

/-! ### Happenings of one instant that are still to be taken -/

/-- A happening that an advance, a step, a tick or a REFCLK period has brought about and that is still to be taken
(R44, R78, R79). -/
inductive Happening where
  | claim (c : DueClaim)
  | pulseEnd (c : ChannelIx)
  | phaseChange (c : ChannelIx)
  deriving DecidableEq, Repr

/-- The command that takes a happening. -/
def Happening.command : Happening → Instr
  | .claim c => .fallingDue c
  | .pulseEnd c => .pulseEnd c
  | .phaseChange c => .burstPhaseChange c

/-- The claims of one domain still to be taken (R44). -/
def State.dueClaims (s : State) (d : Domain) : List DueClaim :=
  let l := s.dueSlots d
  ((List.finRange 16).filter (fun c => l.any (fun i => s.table.channelAt i == some c))).map (DueClaim.channel d)
    ++ (l.filter (fun i => s.table.channelAt i == none)).map DueClaim.mark

/-- The pulse ends still to be taken (R78). -/
def State.duePulseEnds (s : State) : List ChannelIx :=
  (List.finRange 16).filter (fun c => (s.channels[c]).endReached)

/-- The burst phase changes still to be taken (R79). -/
def State.duePhaseChanges (s : State) : List ChannelIx :=
  (List.finRange 16).filter (fun c => (s.channels[c]).phaseOver)

/-- Every happening still to be taken: the claims of both domains, the pulse ends and the burst phase changes. -/
def State.outstanding (s : State) : List Happening :=
  (s.dueClaims .time ++ s.dueClaims .position).map .claim ++ s.duePulseEnds.map .pulseEnd
    ++ s.duePhaseChanges.map .phaseChange

/-- One happening taken. -/
def State.takeHappening (s : State) : Happening → State
  | .claim c => s.takeClaim c
  | .pulseEnd c => s.setChannel c (s.channels[c]).endPulse
  | .phaseChange c => s.setChannel c (s.channels[c]).phaseChange

/-- The happenings in the order in which the part takes them, which the spec leaves open: each pick is a free value
(`Config.happeningOrder`), read at the model's counter `k`; one left alone is taken as it is. -/
def pickOrder (k : Nat) : Nat → List Happening → List Happening
  | 0, _ => []
  | _ + 1, [] => []
  | _ + 1, [h] => [h]
  | n + 1, h :: h2 :: rest =>
    let l := h :: h2 :: rest
    let i := Config.happeningOrder k % l.length
    l.getD i h :: pickOrder (k + 1) n (l.eraseIdx i)

/-- Takes the given happenings, in an open order (notes/assumptions/3.md, notes/assumptions/4.md). -/
def State.settle (s : State) (l : List Happening) : State :=
  (pickOrder s.freeIx l.length l).foldl State.takeHappening (s.setFreeIx (s.freeIx + l.length))

/-- Before TB-T advances, the claims of the TIME domain and the pulse ends that an earlier tick brought about have been
taken (R18, R42, R78). -/
def State.settleTick (s : State) : State :=
  s.settle ((s.dueClaims .time).map .claim ++ s.duePulseEnds.map .pulseEnd)

/-- Before TB-P steps, the claims that an earlier step brought about have been taken (R19, R43). -/
def State.settleStep (s : State) : State := s.settle ((s.dueClaims .position).map .claim)

/-- Before a REFCLK period passes, everything still to be taken has been taken (R42, R43, R78, R79). -/
def State.settleAll (s : State) : State := s.settle s.outstanding

end Sys2Proof.Machine
end

