-- ==== Sys2Proof/Machine/Quiesce.lean ====
section
/-! DEFINITION. Quiesce Control (chapter 8): the trip latch and the pin, entry, exit with the release of the suspended list and
its catch-up, and QUIESCE, RESUME and QUIESCE_READ. -/

namespace Sys2Proof.Machine

/-- Entry to the quiesced condition: every channel enters SAFE (R81, R145). -/
def State.enterQuiesce (s : State) : State := s.setChannels (s.channels.map Channel.enterSafe)

/-- The trip latch is set; where the part was not quiesced, this is the entry (R142, R145). -/
def State.trip (s : State) : State :=
  let s1 := s.setQuiesce { s.quiesce with latch := true }
  if s.quiesced then s1 else s1.enterQuiesce

/-- QUIESCEN_FALLING_EDGE (R141): the mirror goes LOW, the latch is set, TRIP is raised, and the entry follows where the part
was not quiesced. With the mirror already LOW there is no such edge, and none is taken while RSTn is low. -/
def execQuiescenFallingEdge (s : State) : Host.Outcome State Fault Refusal :=
  .next (if s.rstn = .low then s
    else if s.quiesce.mirror = .low then s
    else (s.trip.setQuiesce { s.trip.quiesce with mirror := .low }).raise .trip)

/-- QUIESCEN_RISING_EDGE (R141): the mirror goes HIGH and the latch stays. -/
def execQuiescenRisingEdge (s : State) : Host.Outcome State Fault Refusal :=
  .next (if s.rstn = .low then s else s.setQuiesce { s.quiesce with mirror := .high })

/-- QUIESCE (R142). -/
def execQuiesce (tag : Byte) (p : PadOnly) (s : State) : Host.Outcome State Fault Refusal :=
  .next (s.submit tag (fun s => withPad p s (fun s => answer s.trip [])))

/-! ### Exit -/

/-- What a catch-up has come to (R150): the due value reached, the remaining count (absent where endless), how many values
were skipped, and whether the record is ARMED at that value or has completed there. -/
structure CaughtUp where
  due : Word
  remaining : Option Nat
  skipped : Nat
  armed : Bool
  deriving DecidableEq, Repr

/-- The catch-up series of a counted repeat, from a due value with `n` firings remaining and `k` values skipped so far: each
later value consumes one firing; the first that lies ahead is the one the record is armed at; one that does not is skipped,
and where none remains the record completes (R150, R151). -/
def catchUpCounted (b : Base) (tbT tbP : Word) (interval : Nat) : Nat → Word → Nat → CaughtUp
  | 0, due, k => { due := due, remaining := some 0, skipped := k, armed := false }
  | n + 1, due, k =>
    let d := advance b due interval
    if liesAhead b tbT tbP d then { due := d, remaining := some n, skipped := k, armed := true }
    else catchUpCounted b tbT tbP interval n d (k + 1)

/-- How many values of an endless series are tried: an interval of 1 to the horizon comes round into the distances ahead within
fewer than this many (R150, R151). -/
def catchUpBound : Nat := 2 ^ 32 + 2

/-- The catch-up series of an endless repeat (R150, R151). The bound is met by no record that ARM, AMEND or a spawn writes. -/
def catchUpEndless (b : Base) (tbT tbP : Word) (interval : Nat) : Nat → Word → Nat → CaughtUp
  | 0, due, k => { due := due, remaining := none, skipped := k, armed := false }
  | n + 1, due, k =>
    let d := advance b due interval
    if liesAhead b tbT tbP d then { due := d, remaining := none, skipped := k, armed := true }
    else catchUpEndless b tbT tbP interval n d (k + 1)

/-- The catch-up of a repeat from the suspended due value (R150). -/
def catchUp (b : Base) (tbT tbP : Word) (x : Repeat) (due : Word) : CaughtUp :=
  match x.remaining with
  | some n => catchUpCounted b tbT tbP x.interval n due 0
  | none => catchUpEndless b tbT tbP x.interval catchUpBound due 0

/-- The record as a catch-up leaves it, but for its state: the remaining count, and the skipped firings counted missed
(R11, R150). -/
def caughtRecord (r : ActionRecord) (x : Repeat) (u : CaughtUp) : ActionRecord :=
  { r with what := { r.what with rep := some { x with remaining := u.remaining } } }.skip u.skipped

/-- A record proceeds after its release firing (R150, R152): it completes, or catches up, each skipped value raising MISSED. -/
def State.releaseProceed (s : State) (i : SlotIx) (r : ActionRecord) (due : Word) : State :=
  match r.what.rep with
  | none => s.finish i r .completed
  | some x =>
    if x.remaining = some 0 then s.finish i r .completed
    else
      let u := catchUp r.what.base s.time.tbT s.time.tbP x due
      let s1 := s.setAttention (s.attention.raiseTimes .missed u.skipped)
      if u.armed then s1.armAt i (caughtRecord r x u) u.due
      else s1.finish i { caughtRecord r x u with phase := .suspended u.due } .completed

/-- The release of one suspended record: its firing, its outcome, and how it proceeds (R147, R148, R150). A MARK record is
never suspended; that arm is reached from no run. -/
def State.releaseOne (s : State) (i : SlotIx) : State :=
  match s.table.recordAt i with
  | some r =>
    match r.phase, r.what.work with
    | .suspended d, .onChannel c a =>
      let x := s.fire c { action := a, priority := r.what.priority, handle := s.table.handleOf i }
      x.1.releaseProceed i (r.record x.2.releaseOutcome) d
    | _, _ => s
  | none => s

/-- The exit: the latch clears, every channel leaves SAFE, and the suspended list is released from head to tail
(R83, R143, R147). -/
def State.exitQuiesce (s : State) : State :=
  let s1 := (s.setQuiesce { s.quiesce with latch := false }).setChannels (s.channels.map Channel.leaveSafe)
  (s.table.suspended.foldl State.releaseOne s1).reportLevels

/-- RESUME's claim (R143). -/
def resumeClaim (p : PadOnly) (s : State) : State × Reply :=
  if s.quiesce.mirror = .low then refuse s (padOr 0x82 p .state)
  else
    withPad p s (fun s =>
      if s.quiesce.latch then answer s.exitQuiesce [u8 s.table.suspended.length] else answer s [0])

/-- RESUME (R143, R147). -/
def execResume (tag : Byte) (p : PadOnly) (s : State) : Host.Outcome State Fault Refusal :=
  .next (s.submit tag (resumeClaim p))

/-- The payload of QUIESCE_READ (R144, Table 11-1); bits 7 to 3 of its first byte are shown as 0
(notes/assumptions/21.md). -/
def quiesceBytes (s : State) : List Byte :=
  [u8 (bit s.quiesce.latch + 2 * levelBit s.quiesce.mirror + 4 * bit s.quiesced), u8 s.table.suspended.length]

/-- QUIESCE_READ (R144). -/
def execQuiesceRead (tag : Byte) (p : PadOnly) (s : State) : Host.Outcome State Fault Refusal :=
  .next (s.submit tag (fun s => withPad p s (fun s => answer s (quiesceBytes s))))

end Sys2Proof.Machine
end

