-- ==== Sys2Proof/Machine/Resets.lean ====
section
/-! DEFINITION. The three resets: POWER_ON, RSTN_LOW, RSTN_HIGH and SOFT_RESET (R23, R41, R85, R121, R138, R154, R168, R179,
R180). -/

namespace Sys2Proof.Machine

/-- Every block at its reset values: the references taken from the lines, and the table and the link as the reset leaves them
(R23, R41, R85, R121, R138, R154, R168). -/
def State.resetBlocks (s : State) (l : Lines) (t : ActionTable) (k : Link) : State :=
  { s with
    table := t
    time := Timebases.initial l.enca l.encb l.encz
    channels := Vector.replicate 16 Channel.initial
    senses := l.sen.map SenseInput.initial
    bindings := Vector.replicate 16 Binding.initial
    quiesce := QuiesceControl.initial l.quiescen
    attention := Attention.initial
    link := k }

/-- ENCZ as it stands: LOW where no index edge has come since it was found LOW, and after one a free value, since no command
stands for its fall (R36, R41, notes/assumptions/20.md). -/
def State.presentEncz (s : State) : Level :=
  match s.time.encZ with
  | .low => .low
  | .high => if Config.enczStillHigh s.freeIx then .high else .low

/-- The lines as they stand: ENCZ apart, each change of a line is a command that moves its reference (R32, R110, R141). CSn does
not matter where this is used. -/
def State.presentLines (s : State) : Lines :=
  { enca := s.time.encA, encb := s.time.encB, encz := s.presentEncz, quiescen := s.quiesce.mirror, csn := .high,
    sen := s.senses.map (·.lineRef) }

/-- The end of a hardware reset or power-on with RSTn high: every block at its reset values, and the link waiting for CSn to
rise where it is low (R41, R180). -/
def State.release (s : State) (l : Lines) : State :=
  (s.resetBlocks l ActionTable.initial (Link.initial (if l.csn = .low then .awaitRise else .idle))).setRstn .high

/-- The part held in reset by RSTn: its blocks at their reset values, so that every OUT line and ATTN are LOW, the link empty
(R85, R167, R180). -/
def State.hold (s : State) (l : Lines) : State :=
  (s.resetBlocks l ActionTable.initial (Link.initial .idle)).setRstn .low

/-- POWER_ON (R41, R180): as if RSTn were low until supply and REFCLK are stable, and from there on as RSTn stands. -/
def execPowerOn (rstn : Level) (l : Lines) (s : State) : Host.Outcome State Fault Refusal :=
  .next (if rstn = .low then s.hold l else s.release l)

/-- RSTN_LOW (R180). -/
def execRstnLow (s : State) : Host.Outcome State Fault Refusal := .next (s.hold s.presentLines)

/-- RSTN_HIGH (R41, R180). With RSTn already high there is no release. -/
def execRstnHigh (l : Lines) (s : State) : Host.Outcome State Fault Refusal :=
  .next (if s.rstn = .high then s else s.release l)

/-- The link after an accepted SOFT_RESET: one filled entry, the latches clear, no window (R179, R180). -/
def softResetLink (tag : Byte) : Link :=
  { queue := [{ tag := tag, reply := some { result := .ok, payload := [] } }], refusal := false, fault := false,
    window := .idle }

/-- SOFT_RESET (R179): accepted as any frame is; one whose payload is more than its pad byte is refused BAD_FIELD and resets
nothing (R185). -/
def execSoftReset (tag : Byte) (p : PadOnly) (s : State) : Host.Outcome State Fault Refusal :=
  .next (match p with
    | .unfit => s.submit tag (fun s => refuse s .badField)
    | .fits _ =>
      if s.rstn = .low then s
      else if s.link.blocked then s.setLink { s.link with refusal := true }
      else (s.resetBlocks s.presentLines s.table.softReset (softResetLink tag)).setFreeIx (s.freeIx + 1))

end Sys2Proof.Machine
end

