-- ==== Sys2Proof/Machine/Bindings.lean ====
section
/-! DEFINITION. The Binding Table (chapter 7): spawning on a qualified edge, and BIND_WRITE, BIND_ENABLE, BIND_DISABLE and
BIND_READ. -/

namespace Sys2Proof.Machine

/-- The binding has a step of domain `d` (R132). -/
def Binding.hasStep (x : Binding) (d : Domain) : Bool := x.steps.any (fun y => y.what.base.domain == d)

/-- Why a spawn of binding `x` fails, the first cause that holds in the order of R132; absent where it does not fail. -/
def State.spawnFailure (s : State) (x : Binding) : Option FailCause :=
  if s.sweeping then some .sweep
  else if x.hasStep .time && !s.time.running then some .tbStopped
  else if x.hasStep .position && s.time.homing then some .homing
  else if s.table.freeCount < s.table.reserve + x.steps.length then some .pool
  else none

/-- The record a step makes, timed from the stamp (R134). -/
def spawnRecord (o : Origin) (stampT stampP : Word) (x : SpawnStep) : ActionRecord :=
  x.what.newRecord o none (.armed (aheadOf x.what.base stampT stampP x.offset))

/-- The records of a spawn written, step 0 into the first slot, the next into the next (R12, R134). -/
def ActionTable.writeSpawn (t : ActionTable) (o : Origin) (stampT stampP : Word) : List SpawnStep → List SlotIx → ActionTable
  | x :: xs, i :: is => (t.write i (spawnRecord o stampT stampP x)).writeSpawn o stampT stampP xs is
  | _, _ => t

/-- A failed spawn: the fail count, the last fail cause and SPAWN_FAIL (R133). -/
def State.recordFailure (s : State) (b : BindingIx) (why : FailCause) : State :=
  (s.setBinding b { s.bindings[b] with fails := bump16 s.bindings[b].fails, lastFail := some why }).raise .spawnFail

/-- A spawn that does not fail: the k lowest FREE slots, the ordinal and the live count (R134, R137). -/
def State.makeSpawn (s : State) (b : BindingIx) (stampT stampP : Word) : State :=
  let x := s.bindings[b]
  (s.setTable (s.table.writeSpawn (.binding b x.ordinal) stampT stampP x.steps s.table.freeSlots)).setBinding b
    { x with ordinal := (x.ordinal + 1) % 65536, live := x.live + x.steps.length }

/-- One binding taken within a spawn claim (R131). -/
def State.spawnOne (stampT stampP : Word) (s : State) (b : BindingIx) : State :=
  match s.spawnFailure s.bindings[b] with
  | some why => s.recordFailure b why
  | none => s.makeSpawn b stampT stampP

/-- The bindings that a qualified edge of input `n` selects, in ascending index (R131). -/
def State.selected (s : State) (n : SenseIx) : List BindingIx :=
  (List.finRange 16).filter (fun b => s.bindings[b].enabled && s.bindings[b].input == n)

/-- What a qualified edge hands to the Binding Table (R116). The bindings do not use the polarity (R131). -/
structure HandOff where
  input : SenseIx
  stampT : Word
  stampP : Word
  polarity : Polarity
  deriving DecidableEq, Repr

/-- The spawn claim of a hand-off, taken whole (R116, R131). -/
def State.spawn (s : State) (h : HandOff) : State :=
  ((s.selected h.input).foldl (State.spawnOne h.stampT h.stampP) s).reportLevels

/-- BIND_WRITE's claim: the checks of R125 in order, then the new recipe. -/
def bindWriteClaim (a : BindWriteItems) (s : State) : State × Reply :=
  match finOf 16 a.binding, finOf 8 a.input, checkSteps a.steps with
  | some b, some n, some steps =>
    if !(1 ≤ steps.length && steps.length ≤ 4) then refuse s .badField
    else if s.bindings[b].enabled then refuse s .state
    else if 0 < s.bindings[b].live then refuse s .busy
    else
      answer (s.setBinding b { s.bindings[b] with
        input := n, steps := steps, ordinal := 0, fails := 0, lastFail := none }) []
  | _, _, _ => refuse s .badField

/-- BIND_WRITE (R125). -/
def execBindWrite (tag : Byte) (p : Payload BindWriteItems) (s : State) : Host.Outcome State Fault Refusal :=
  .next (s.submit tag (fun s => withItems p s bindWriteClaim))

/-- BIND_ENABLE's claim (R127). -/
def bindEnableClaim (n : Nat) (s : State) : State × Reply :=
  match finOf 16 n with
  | none => refuse s .badField
  | some b =>
    if s.bindings[b].steps.isEmpty then refuse s .state
    else answer (s.setBinding b { s.bindings[b] with enabled := true }) []

/-- BIND_ENABLE (R127). -/
def execBindEnable (tag : Byte) (p : Payload Nat) (s : State) : Host.Outcome State Fault Refusal :=
  .next (s.submit tag (fun s => withItems p s bindEnableClaim))

/-- The record came from binding `b` (R6). -/
def ActionRecord.isFrom (r : ActionRecord) (b : BindingIx) : Bool :=
  match r.origin with
  | .host => false
  | .binding x _ => x == b

/-- The ARMED and SUSPENDED records of binding `b`, in ascending slot order (R129). -/
def ActionTable.spawnedBy (t : ActionTable) (b : BindingIx) : List SlotIx :=
  t.slotsWith (fun r => (r.phase.isArmed || r.phase.isSuspended) && r.isFrom b)

/-- BIND_DISABLE's claim: without the retire option it stays at the Binding Table (R128); with it the binding's ARMED and
SUSPENDED records are retired in the same claim, also while the table is SWEEPING, when there are none (R129). -/
def bindDisableClaim (a : BindDisableItems) (s : State) : State × Reply :=
  match finOf 16 a.binding with
  | none => refuse s .badField
  | some b =>
    let s1 := s.setBinding b { s.bindings[b] with enabled := false }
    if a.retire then
      answer (s1.retireAll .bindingRetired (s1.table.spawnedBy b)).reportLevels [u8 (s1.table.spawnedBy b).length]
    else answer s1 [0]

/-- BIND_DISABLE (R128, R129). -/
def execBindDisable (tag : Byte) (p : Payload BindDisableItems) (s : State) : Host.Outcome State Fault Refusal :=
  .next (s.submit tag (fun s => withItems p s bindDisableClaim))

/-- BIND_READ's claim (R130). -/
def bindReadClaim (n : Nat) (s : State) : State × Reply :=
  match finOf 16 n with
  | none => refuse s .badField
  | some b => answer s (bindingImage b s.bindings[b])

/-- BIND_READ (R130). -/
def execBindRead (tag : Byte) (p : Payload Nat) (s : State) : Host.Outcome State Fault Refusal :=
  .next (s.submit tag (fun s => withItems p s bindReadClaim))

end Sys2Proof.Machine
end

