-- ==== Sys2Proof/Machine/Sense.lean ====
section
/-! DEFINITION. The sense inputs (chapter 6): edge selection, the gap filter, the prescale counter, the stamp and the hand-off
of SENSE_EDGE, with SENSE_CONFIG and READ_STAMP. -/

namespace Sys2Proof.Machine

/-- The polarity of an edge whose sample is at the given level (R110). -/
def edgePolarity : Level → Polarity
  | .high => .rise
  | .low => .fall

/-- The edges a selection names (R111). -/
def selects : EdgeSel → Polarity → Bool
  | .rise, p => p == .rise
  | .fall, p => p == .fall
  | .both, _ => true

/-- An edge is examined when the input is enabled and its selection names the edge's polarity (R111). -/
def SenseInput.examines (x : SenseInput) (p : Polarity) : Bool := x.enable && selects x.edges p

/-- The gap filter accepts an examined edge (R112). -/
def SenseInput.gapAccepts (x : SenseInput) : Bool :=
  match x.gapTracker with
  | none => true
  | some e => x.minGap == 0 || x.minGap ≤ e

/-- An edge of this polarity is accepted: examined, and not within the gap (R111, R112). -/
def SenseInput.accepts (x : SenseInput) (p : Polarity) : Bool := x.examines p && x.gapAccepts

/-- An accepted edge of this input qualifies: it brings the counter to the prescale (R114). -/
def SenseInput.qualifies (x : SenseInput) : Bool := x.prescale ≤ x.prescaleCount + 1

/-- An accepted edge restarts the gap and moves the prescale counter, which returns to 0 where the edge qualifies
(R112, R114). -/
def SenseInput.accept (x : SenseInput) : SenseInput :=
  { x with gapTracker := some 0, prescaleCount := if x.qualifies then 0 else x.prescaleCount + 1 }

/-- The stamp of a qualified edge: the two values, the polarity, the unread flag set, and the overrun flag set where an unread
stamp is overwritten (R115). -/
def SenseInput.stamp (x : SenseInput) (tbT tbP : Word) (p : Polarity) : SenseInput :=
  { x with stampT := tbT, stampP := tbP, polarity := some p, unread := true, overrun := x.overrun || x.unread }

/-- A qualified edge at input `n`, whose accepted state is `x`: the stamp, STAMP_OVERRUN where an unread stamp is lost, and the
hand-off to the Binding Table with its spawns (R115, R116, R131). -/
def State.qualifiedEdge (s : State) (n : SenseIx) (x : SenseInput) (p : Polarity) : State :=
  let s1 := s.setSense n (x.stamp s.time.tbT s.time.tbP p)
  (if x.unread then s1.raise .stampOverrun else s1).spawn
    { input := n, stampT := s.time.tbT, stampP := s.time.tbP, polarity := p }

/-- An edge at input `n` to the given level: the line reference follows the line, and an accepted edge goes on to the prescale
counter (R110, R111, R112, R114). -/
def State.edge (s : State) (n : SenseIx) (sample : Level) : State :=
  let x := { s.senses[n] with lineRef := sample }
  let p := edgePolarity sample
  if x.accepts p then
    if x.qualifies then s.qualifiedEdge n x.accept p else s.setSense n x.accept
  else s.setSense n x

/-- SENSE_EDGE (R110). A sample equal to the line reference is no edge, and no edge is taken while RSTn is low (R121). -/
def execSenseEdge (n : SenseIx) (sample : Level) (s : State) : Host.Outcome State Fault Refusal :=
  .next (if s.rstn = .low then s
    else if s.senses[n].lineRef = sample then s
    else s.edge n sample)

/-- The prescale is 1, 2, 4 or 8 (R117). -/
def prescaleOk (n : Nat) : Bool := n == 1 || n == 2 || n == 4 || n == 8

/-- The four configuration items replaced, the counter at 0 and the gap tracker at NONE (R117). -/
def SenseInput.configure (x : SenseInput) (a : SenseConfigItems) : SenseInput :=
  { x with enable := a.enable, edges := a.edges, prescale := a.prescale, minGap := a.gap, prescaleCount := 0,
           gapTracker := none }

/-- SENSE_CONFIG's claim (R117). -/
def senseConfigClaim (a : SenseConfigItems) (s : State) : State × Reply :=
  match finOf 8 a.input with
  | none => refuse s .badField
  | some n =>
    if !prescaleOk a.prescale || 65535 < a.gap then refuse s .badField
    else answer (s.setSense n (s.senses[n].configure a)) []

/-- SENSE_CONFIG (R117). -/
def execSenseConfig (tag : Byte) (p : Payload SenseConfigItems) (s : State) : Host.Outcome State Fault Refusal :=
  .next (s.submit tag (fun s => withItems p s senseConfigClaim))

/-- READ_STAMP's claim: the stamp image with the flags as they stood, which are then cleared (R119). -/
def readStampClaim (k : Nat) (s : State) : State × Reply :=
  match finOf 8 k with
  | none => refuse s .badField
  | some n =>
    answer (s.setSense n { s.senses[n] with unread := false, overrun := false }) (stampImage n s.senses[n])

/-- READ_STAMP (R119). -/
def execReadStamp (tag : Byte) (p : Payload Nat) (s : State) : Host.Outcome State Fault Refusal :=
  .next (s.submit tag (fun s => withItems p s readStampClaim))

end Sys2Proof.Machine
end

