-- ==== Sys2Proof/Machine/TableRequests.lean ====
section
/-! DEFINITION. The table requests of chapters 1 and 5: SETTINGS, SETTINGS_READ, ARM, AMEND, RETIRE, GO_GROUP, RETIRE_GROUP,
PEEK, SCAN, NEXT_DUE, TABLE_CLEAR, and the end of the sweep. -/

namespace Sys2Proof.Machine

/-- SETTINGS' claim: the sweep is checked before the payload (R15). -/
def settingsClaim (p : Payload SettingsItems) (s : State) : State × Reply :=
  if s.sweeping then refuse s .busy
  else
    match p with
    | .unfit => refuse s .badField
    | .fits a =>
      if 64 < a.reserve || 127 < a.lowThreshold then refuse s .badField
      else answer (s.setTable { s.table with reserve := a.reserve, lowThreshold := a.lowThreshold }).reportLevels []

/-- SETTINGS (R15). -/
def execSettings (tag : Byte) (p : Payload SettingsItems) (s : State) : Host.Outcome State Fault Refusal :=
  .next (s.submit tag (settingsClaim p))

/-- The number of PARKED records (R16). -/
def ActionTable.parkedCount (t : ActionTable) : Nat := (t.slotsWith (·.phase.isParked)).length

/-- The eight values of SETTINGS_READ (R16, Table 11-1). -/
def settingsBytes (s : State) : List Byte :=
  [u8 s.table.reserve, u8 s.table.lowThreshold, u8 s.table.freeCount, u8 s.table.parkedCount,
    u8 (s.table.timeDueOrder s.time.tbT).length, u8 s.table.positionSet.length, u8 s.table.suspended.length,
    u8 s.table.doneList.length]

/-- SETTINGS_READ's claim (R16). -/
def settingsReadClaim (p : PadOnly) (s : State) : State × Reply :=
  if s.sweeping then refuse s (padOr 0x12 p .busy) else withPad p s (fun s => answer s (settingsBytes s))

/-- SETTINGS_READ (R16). -/
def execSettingsRead (tag : Byte) (p : PadOnly) (s : State) : Host.Outcome State Fault Refusal :=
  .next (s.submit tag (settingsReadClaim p))

/-- The record an ARM writes into slot `i`, and the ARM's payload (R91). -/
def armRecord (s : State) (a : ArmSpec) : ActionRecord :=
  match a.start with
  | .parked => a.what.newRecord .host a.group (.parked a.value.toNat)
  | .armed => a.what.newRecord .host a.group (.armed (formDue s a.what.base a.form a.value))

/-- The payload of an accepted ARM: handle, state, and the due value, 0 for a record that starts PARKED (R91, R184). -/
def armBytes (h : Handle) (r : ActionRecord) : List Byte :=
  handleBytes h ++ [u8 (phaseCode r.phase)] ++ (match r.phase with
    | .armed d => beWord d
    | _ => be32 0)

/-- ARM's claim: the checks of R89 and R90 in order, then the lowest FREE slot (R91). -/
def armClaim (p : Payload ArmItems) (s : State) : State × Reply :=
  match p with
  | .unfit => refuse s .badField
  | .fits items =>
    match checkArm items with
    | none => refuse s .badField
    | some a =>
      if a.start = .armed ∧ outOfHorizon s a.what.base a.form a.value = true then refuse s .range
      else if a.what.base.domain = .position ∧ s.time.homing = true then refuse s .state
      else if s.sweeping then refuse s .busy
      else
        match s.table.freeSlots with
        | [] => refuse s .full
        | i :: _ =>
          answer (s.setTable (s.table.write i (armRecord s a))).reportLevels
            (armBytes (s.table.handleOf i) (armRecord s a))

/-- ARM (R89, R90, R91). -/
def execArm (tag : Byte) (p : Payload ArmItems) (s : State) : Host.Outcome State Fault Refusal :=
  .next (s.submit tag (armClaim p))

/-- The record's state after an AMEND of its due: a PARKED record holds the new offset, and an ARMED or SUSPENDED record is
ARMED at the new due value (R93). -/
def amendPhase (s : State) (r : ActionRecord) : Option (DueForm × Word) → Phase
  | none => r.phase
  | some (form, v) =>
    match r.phase with
    | .parked _ => .parked v.toNat
    | _ => .armed (formDue s r.what.base form v)

/-- The record after an accepted AMEND: every item it carries replaced (R93). -/
def amendRecord (s : State) (r : ActionRecord) (b : AmendBody) : ActionRecord :=
  { r with
    what := amendTemplate b r.what
    group := match b.group with
      | some g => some g
      | none => r.group
    phase := amendPhase s r b.due }

/-- The payload of an accepted AMEND: the state, and the due value, or the offset while PARKED (R93). -/
def amendBytes (r : ActionRecord) : List Byte := u8 (phaseCode r.phase) :: dueBytes r.phase

/-- The accepted AMEND's changes: the record replaced, and out of the suspended list where it became ARMED (R93). -/
def State.applyAmend (s : State) (i : SlotIx) (r : ActionRecord) : State :=
  let t := s.table.write i r
  s.setTable { t with suspended := if r.phase.isSuspended then t.suspended else t.suspended.erase i }

/-- AMEND's claim: the handle checks of R3, then the checks of R92 in order. -/
def amendClaim (a : AmendItems) (s : State) : State × Reply :=
  match checkHandle s a.handle with
  | .error e => refuse s e
  | .ok (i, r) =>
    if r.phase.isDone then refuse s .state
    else
      match a.body with
      | .unfit => refuse s .badField
      | .fits b =>
        if !amendFieldsOk b r then refuse s .badField
        else if b.group.isSome && !r.phase.isParked then refuse s .state
        else if b.due.any (fun x => outOfHorizon s r.what.base x.1 x.2) then refuse s .range
        else answer (s.applyAmend i (amendRecord s r b)) (amendBytes (amendRecord s r b))

/-- AMEND (R92, R93). -/
def execAmend (tag : Byte) (p : Payload AmendItems) (s : State) : Host.Outcome State Fault Refusal :=
  .next (s.submit tag (fun s => withItems p s amendClaim))

/-- RETIRE's claim (R94). -/
def retireClaim (h : HandleItems) (s : State) : State × Reply :=
  match checkHandle s h with
  | .error e => refuse s e
  | .ok (i, r) =>
    if r.phase.isDone then refuse s .state
    else
      let s1 := (s.finish i r .retired).reportLevels
      answer s1 [u8 (slotCode s1.table i)]

/-- RETIRE (R94). -/
def execRetire (tag : Byte) (p : Payload HandleItems) (s : State) : Host.Outcome State Fault Refusal :=
  .next (s.submit tag (fun s => withItems p s retireClaim))

/-- The PARKED records of a group, in ascending slot order (R95). -/
def ActionTable.parkedIn (t : ActionTable) (g : Nat) : List SlotIx :=
  t.slotsWith (fun r => r.phase.isParked && r.group == some g)

/-- A PARKED record armed by GO_GROUP: its due value is its offset ahead of now, and the offset is gone (R96). -/
def goRecord (s : State) (r : ActionRecord) : ActionRecord :=
  match r.phase with
  | .parked n => { r with phase := .armed (aheadOf r.what.base s.time.tbT s.time.tbP n) }
  | _ => r

/-- Arms the records of the given slots (R96). -/
def State.goAll (s : State) : List SlotIx → State
  | [] => s
  | i :: rest =>
    match s.table.recordAt i with
    | some r => (s.putRecord i (goRecord s r)).goAll rest
    | none => s.goAll rest

/-- Some PARKED record of the group is POSITION (R95). -/
def ActionTable.parkedPosition (t : ActionTable) (g : Nat) : Bool :=
  !(t.slotsWith (fun r => r.phase.isParked && r.group == some g && r.what.base.domain == .position)).isEmpty

/-- GO_GROUP's claim: the checks of R95 in order, then R96. -/
def goGroupClaim (g : Nat) (s : State) : State × Reply :=
  if !(1 ≤ g && g ≤ 15) then refuse s .badField
  else if s.sweeping then refuse s .busy
  else if (s.table.parkedIn g).isEmpty then refuse s .empty
  else if s.table.parkedPosition g && s.time.homing then refuse s .state
  else answer (s.goAll (s.table.parkedIn g)) [u8 (s.table.parkedIn g).length]

/-- GO_GROUP (R95, R96). -/
def execGoGroup (tag : Byte) (p : Payload Nat) (s : State) : Host.Outcome State Fault Refusal :=
  .next (s.submit tag (fun s => withItems p s goGroupClaim))

/-- The PARKED, ARMED and SUSPENDED records of a group, in ascending slot order (R97). -/
def ActionTable.activeIn (t : ActionTable) (g : Nat) : List SlotIx :=
  t.slotsWith (fun r => r.phase.isActive && r.group == some g)

/-- RETIRE_GROUP's claim (R97). -/
def retireGroupClaim (g : Nat) (s : State) : State × Reply :=
  if !(1 ≤ g && g ≤ 15) then refuse s .badField
  else if s.sweeping then refuse s .busy
  else answer (s.retireAll .groupRetired (s.table.activeIn g)).reportLevels [u8 (s.table.activeIn g).length]

/-- RETIRE_GROUP (R97). -/
def execRetireGroup (tag : Byte) (p : Payload Nat) (s : State) : Host.Outcome State Fault Refusal :=
  .next (s.submit tag (fun s => withItems p s retireGroupClaim))

/-- PEEK's claim (R98). -/
def peekClaim (h : HandleItems) (s : State) : State × Reply :=
  match checkHandle s h with
  | .error e => refuse s e
  | .ok (i, r) => answer s (recordImage (s.table.handleOf i) r)

/-- PEEK (R98). -/
def execPeek (tag : Byte) (p : Payload HandleItems) (s : State) : Host.Outcome State Fault Refusal :=
  .next (s.submit tag (fun s => withItems p s peekClaim))

/-- The lowest slot at or above `n` that is not FREE (R99). -/
def ActionTable.scanFrom (t : ActionTable) (n : Nat) : Option SlotIx :=
  (t.slotsWith (fun _ => true)).find? (fun i => n ≤ i.val)

/-- SCAN's claim (R99). -/
def scanClaim (n : Nat) (s : State) : State × Reply :=
  if 127 < n then refuse s .badField
  else if s.sweeping then refuse s .busy
  else
    match s.table.scanFrom n with
    | none => refuse s .empty
    | some i => answer s (handleBytes (s.table.handleOf i) ++ [u8 (slotCode s.table i)])

/-- SCAN (R99). -/
def execScan (tag : Byte) (p : Payload Nat) (s : State) : Host.Outcome State Fault Refusal :=
  .next (s.submit tag (fun s => withItems p s scanClaim))

/-- The due value of the record in slot `i`, as NEXT_DUE returns it (R100). -/
def dueAt (t : ActionTable) (i : SlotIx) : List Byte :=
  match t.recordAt i with
  | some r => dueBytes r.phase
  | none => be32 0

/-- NEXT_DUE's claim (R100). -/
def nextDueClaim (p : PadOnly) (s : State) : State × Reply :=
  if s.sweeping then refuse s (padOr 0x58 p .busy)
  else
    match s.table.timeDueOrder s.time.tbT with
    | [] => refuse s (padOr 0x58 p .empty)
    | i :: _ => withPad p s (fun s => answer s (handleBytes (s.table.handleOf i) ++ dueAt s.table i))

/-- NEXT_DUE (R100). -/
def execNextDue (tag : Byte) (p : PadOnly) (s : State) : Host.Outcome State Fault Refusal :=
  .next (s.submit tag (nextDueClaim p))

/-- A slot at the acceptance of TABLE_CLEAR: FREE, and marked as awaiting its step if it was live (R22, R105). -/
def Slot.cleared (x : Slot) : Slot := { gen := x.gen, content := none, awaiting := x.content.isSome }

/-- The acceptance of TABLE_CLEAR (R22, R105, R139). -/
def State.clearTable (s : State) : State :=
  ((s.setTable { s.table with
      slots := s.table.slots.map Slot.cleared
      suspended := []
      doneList := []
      sweep := some (128 - s.table.freeCount) }).setBindings
    (s.bindings.map (fun b => { b with live := 0 }))).reportLevels

/-- TABLE_CLEAR's claim; an accepted one leaves its entry reserved (R105). -/
def tableClearClaim (p : PadOnly) (s : State) : State × Option Reply :=
  if s.sweeping then (s, some { result := padOr 0x59 p .busy, payload := [] })
  else
    match p with
    | .unfit => (s, some { result := .badField, payload := [] })
    | .fits _ => (s.clearTable, none)

/-- TABLE_CLEAR (R105). -/
def execTableClear (tag : Byte) (p : PadOnly) (s : State) : Host.Outcome State Fault Refusal :=
  .next (s.submitEntry tag (tableClearClaim p))

/-- A slot at the end of the sweep: a marked one takes its generation step (R106). -/
def Slot.swept (x : Slot) : Slot :=
  { x with gen := if x.awaiting then x.gen + 1 else x.gen, awaiting := false }

/-- The reserved entry filled in place; every filled entry stays as it is (R106, R176). -/
def fillReserved (r : Reply) (e : Entry) : Entry := { e with reply := some (e.reply.getD r) }

/-- SWEEP_END (R106). No sweep ends while RSTn is low or the table is NORMAL. -/
def execSweepEnd (s : State) : Host.Outcome State Fault Refusal :=
  .next (if s.rstn = .low then s
    else
      match s.table.sweep with
      | none => s
      | some n =>
        (s.setTable { s.table with slots := s.table.slots.map Slot.swept, sweep := none }).setLink
          { s.link with queue := s.link.queue.map (fillReserved { result := .ok, payload := [u8 n] }) })

end Sys2Proof.Machine
end

