-- ==== Sys2Proof/Machine/Timebase.lean ====
section
/-! DEFINITION. The Timebase Unit (chapter 2): grain ticks, encoder steps and faults, the index edge, the requests on TB-T,
TB-P, the grain divisor and homing, and the passing of REFCLK periods. -/

namespace Sys2Proof.Machine

/-- A grain tick at the Timebase Unit: the next grain begins, and TB-T advances by one while RUNNING (R24, R26). -/
def Timebases.tick (t : Timebases) : Timebases :=
  { t with grainPhase := 0, tbT := if t.running then t.tbT + 1 else t.tbT }

/-- A grain tick at a sense input: an elapsed count takes one more, up to 65535; NONE stays (R112). -/
def SenseInput.tick (x : SenseInput) : SenseInput := { x with gapTracker := x.gapTracker.map bump16 }

/-- A grain tick offered to its three consumers (R24). -/
def State.tickAll (s : State) : State :=
  ((s.setTime s.time.tick).setChannels (s.channels.map Channel.tick)).setSenses (s.senses.map SenseInput.tick)

/-- One REFCLK period passes: the grain is one period older, and each burst phase has one period fewer left (R24, R64, R79).
While RSTn is low nothing passes (R41). -/
def State.refclkPeriod (s : State) : State :=
  if s.rstn = .low then s
  else
    (s.setTime { s.time with grainPhase := min (s.time.grainPhase + 1) s.time.divisor }).setChannels
      (s.channels.map Channel.period)

/-- One REFCLK period passes, everything that is due before it taken first. -/
def State.passPeriod (s : State) : State := s.settleAll.refclkPeriod

/-- `n` REFCLK periods pass. -/
def State.passPeriods : Nat → State → State
  | 0, s => s
  | n + 1, s => State.passPeriods n s.passPeriod

/-- The periods that the present grain still lacks pass (R24). -/
def State.restOfGrain (s : State) : State := State.passPeriods (s.time.divisor - s.time.grainPhase) s

/-- GRAIN_TICK (R24, R26): the end of the present grain. A grain is `divisor` REFCLK periods long, so the periods that it still
lacks pass first (notes/assumptions/2.md), and the claims and pulse ends of earlier ticks have been taken before the tick.
While RSTn is low the grain clock does not tick (R41). -/
def execGrainTick (s : State) : Host.Outcome State Fault Refusal :=
  .next (if s.rstn = .low then s else s.restOfGrain.settleTick.tickAll)

/-- The commands that are due by the part's own clocks and timebases: the happenings still to be taken, and GRAIN_TICK at the
end of a grain. -/
def State.ownCommands (s : State) : List Instr :=
  s.outstanding.map Happening.command ++ (if s.time.grainWhole then [.grainTick] else [])

/-- The command that the part takes on its own, where one is due; several have no order among themselves (R44, R47, R80), and a
free value picks (notes/assumptions/4.md). -/
def State.ownCommand (s : State) : Option Instr :=
  if s.rstn = .low then none
  else
    match s.ownCommands with
    | [] => none
    | [c] => some c
    | c :: d :: rest =>
      let l := c :: d :: rest
      some (l.getD (Config.happeningOrder s.freeIx % l.length) c)

/-- How the decoder classifies a sampled pair against its reference (R32). -/
inductive Transition where
  | same
  | step (d : Dir)
  | fault
  deriving DecidableEq, Repr

/-- The table of R32: the reference pair (ENCA, ENCB), then the new pair. -/
def classify : Level × Level → Level × Level → Transition
  | (.low, .low), (.high, .low) => .step .fwd
  | (.low, .low), (.low, .high) => .step .rev
  | (.low, .low), (.high, .high) => .fault
  | (.high, .low), (.high, .high) => .step .fwd
  | (.high, .low), (.low, .low) => .step .rev
  | (.high, .low), (.low, .high) => .fault
  | (.high, .high), (.low, .high) => .step .fwd
  | (.high, .high), (.high, .low) => .step .rev
  | (.high, .high), (.low, .low) => .fault
  | (.low, .high), (.low, .low) => .step .fwd
  | (.low, .high), (.high, .high) => .step .rev
  | (.low, .high), (.high, .low) => .fault
  | (.low, .low), (.low, .low) => .same
  | (.high, .low), (.high, .low) => .same
  | (.high, .high), (.high, .high) => .same
  | (.low, .high), (.low, .high) => .same

/-- The pair that a step in direction `d` samples, from the reference pair (R32). -/
def nextPair (d : Dir) : Level × Level → Level × Level
  | (.low, .low) => match d with | .fwd => (.high, .low) | .rev => (.low, .high)
  | (.high, .low) => match d with | .fwd => (.high, .high) | .rev => (.low, .low)
  | (.high, .high) => match d with | .fwd => (.low, .high) | .rev => (.high, .low)
  | (.low, .high) => match d with | .fwd => (.low, .low) | .rev => (.high, .high)

/-- A step of the decoder: TB-P moves by one, the last step direction and the reference follow (R32, R33). -/
def Timebases.step (t : Timebases) (d : Dir) : Timebases :=
  let p := nextPair d (t.encA, t.encB)
  { t with
    tbP := match d with
      | .fwd => t.tbP + 1
      | .rev => t.tbP - 1
    lastDir := some d
    encA := p.1
    encB := p.2 }

/-- ENCODER_STEP (R33). The claims of earlier steps have been taken before it. -/
def execEncoderStep (d : Dir) (s : State) : Host.Outcome State Fault Refusal :=
  .next (if s.rstn = .low then s else s.settleStep.setTime (s.settleStep.time.step d))

/-- ENCODER_FAULT (R34): both lines have changed and are the new reference; ENC_FAULT is raised. -/
def execEncoderFault (s : State) : Host.Outcome State Fault Refusal :=
  .next (if s.rstn = .low then s
    else (s.setTime { s.time with encA := s.time.encA.flip, encB := s.time.encB.flip }).raise .encFault)

/-- ENCZ_RISING_EDGE (R36). A LOW sample of ENCZ has gone before (notes/assumptions/9.md); the HIGH one becomes the reference.
While homing is ARMED, TB-P takes the home value, homing disarms and HOMED is raised. -/
def execEnczRisingEdge (s : State) : Host.Outcome State Fault Refusal :=
  .next (if s.rstn = .low then s
    else if s.time.homing then
      (s.setTime { s.time with encZ := .high, tbP := s.time.homeValue, homing := false }).raise .homed
    else s.setTime { s.time with encZ := .high })

/-- SET_GRAIN's claim (R25). -/
def setGrainClaim (n : Nat) (s : State) : State × Reply :=
  if !(1 ≤ n && n ≤ 4096) then refuse s .badField
  else if s.time.running then refuse s .state
  else if s.channels.any Channel.pulsing || s.table.anyWaiting .time then refuse s .busy
  else answer (s.setTime { s.time with divisor := n, grainPhase := 0 }) []

/-- SET_GRAIN (R25). -/
def execSetGrain (tag : Byte) (p : Payload Nat) (s : State) : Host.Outcome State Fault Refusal :=
  .next (s.submit tag (fun s => withItems p s setGrainClaim))

/-- START_T (R27). -/
def execStartT (tag : Byte) (p : PadOnly) (s : State) : Host.Outcome State Fault Refusal :=
  .next (s.submit tag (fun s => withPad p s (fun s => answer (s.setTime { s.time with running := true }) [])))

/-- STOP_T (R28). -/
def execStopT (tag : Byte) (p : PadOnly) (s : State) : Host.Outcome State Fault Refusal :=
  .next (s.submit tag (fun s => withPad p s (fun s => answer (s.setTime { s.time with running := false }) [])))

/-- SET_T's claim (R29). -/
def setTClaim (v : Word) (s : State) : State × Reply :=
  if s.table.anyWaiting .time then refuse s .state else answer (s.setTime { s.time with tbT := v }) []

/-- SET_T (R29). -/
def execSetT (tag : Byte) (p : Payload Word) (s : State) : Host.Outcome State Fault Refusal :=
  .next (s.submit tag (fun s => withItems p s setTClaim))

/-- The payload of READ_T (R30, Table 11-1). -/
def readTBytes (t : Timebases) : List Byte := beWord t.tbT ++ [u8 (bit t.running)] ++ be16 t.divisor

/-- READ_T (R30). -/
def execReadT (tag : Byte) (p : PadOnly) (s : State) : Host.Outcome State Fault Refusal :=
  .next (s.submit tag (fun s => withPad p s (fun s => answer s (readTBytes s.time))))

/-- HOME_P's claim (R35). -/
def homePClaim (v : Word) (s : State) : State × Reply :=
  if s.table.anyWaiting .position then refuse s .state
  else answer (s.setTime { s.time with homing := true, homeValue := v }) []

/-- HOME_P (R35). -/
def execHomeP (tag : Byte) (p : Payload Word) (s : State) : Host.Outcome State Fault Refusal :=
  .next (s.submit tag (fun s => withItems p s homePClaim))

/-- CANCEL_HOME (R38). -/
def execCancelHome (tag : Byte) (p : PadOnly) (s : State) : Host.Outcome State Fault Refusal :=
  .next (s.submit tag (fun s => withPad p s (fun s => answer (s.setTime { s.time with homing := false }) [])))

/-- SET_P's claim (R39). -/
def setPClaim (v : Word) (s : State) : State × Reply :=
  if s.table.anyWaiting .position || s.time.homing then refuse s .state
  else answer (s.setTime { s.time with tbP := v }) []

/-- SET_P (R39). -/
def execSetP (tag : Byte) (p : Payload Word) (s : State) : Host.Outcome State Fault Refusal :=
  .next (s.submit tag (fun s => withItems p s setPClaim))

/-- The last step direction's code (Table 11-1). -/
def dirCode : Option Dir → Nat
  | none => 0
  | some .fwd => 1
  | some .rev => 2

/-- The payload of READ_P (R40, Table 11-1). -/
def readPBytes (t : Timebases) : List Byte :=
  beWord t.tbP ++ [u8 (bit t.homing)] ++ beWord t.homeValue ++ [u8 (dirCode t.lastDir)]

/-- READ_P (R40). -/
def execReadP (tag : Byte) (p : PadOnly) (s : State) : Host.Outcome State Fault Refusal :=
  .next (s.submit tag (fun s => withPad p s (fun s => answer s (readPBytes s.time))))

end Sys2Proof.Machine
end

