-- ==== Sys2Proof/Machine/LinkUnit.lean ====
section
/-! DEFINITION. The Command Link (chapter 10): windows, the status byte, acceptance, and WINDOW_START, WINDOW_CLOSE,
CSN_RISE_AFTER_RESET, UNKNOWN_REQUEST and IDENT. -/

namespace Sys2Proof.Machine

/-- The frame of the head entry where it is filled: RDY, and what MISO carries after the status byte (R170, R171). -/
def Link.headFrame (l : Link) : Option (List Byte) :=
  match l.queue with
  | { tag := t, reply := some r } :: _ => some (responseFrame t r)
  | _ => none

/-- The window that begins at the fall of CSn, its status byte formed there (R170, R182). -/
def State.openWindow (s : State) : Window :=
  let rdy := s.link.headFrame.isSome
  { status := statusByte s.sweeping rdy s.link.queue.length s.link.refusal s.link.fault s.attention.attn s.quiesced
    rdy := rdy
    fault := s.link.fault
    frame := s.link.headFrame.getD [] }

/-- WINDOW_START (R169, R170). CSn falls while RSTn is high and no window is in progress; while RSTn is low, or CSn has not
risen since the last window or the reset, no window begins. -/
def execWindowStart (s : State) : Host.Outcome State Fault Refusal :=
  .next (if s.rstn = .low then s
    else if s.link.window = .idle then s.setLink { s.link with window := .inProgress s.openWindow }
    else s)

/-- MISO's byte `k` in the window in progress: the status byte, then the head response frame where RDY was shown, then 00h
(R170, R171). MISO is not driven while CSn is high (R169) or RSTn is low (R180). That it is not driven either while the link
waits for CSn, low since RSTn rose, to rise is the model's choice (notes/assumptions/22.md). -/
def State.misoByte (s : State) (k : Nat) : Option Byte :=
  match s.link.window with
  | .inProgress w => some ((w.status :: w.frame).getD k 0)
  | _ => none

/-- MISO's bit at the rising edge `k` of SCLK in the window in progress, counted from 0: each byte goes out most significant
bit first, one bit for each edge (R169). It stands on MISO from the edge before it, or from the fall of CSn. -/
def State.misoBit (s : State) (k : Nat) : Option Bool := (s.misoByte (k / 8)).map (fun b => b.getLsbD (7 - k % 8))

/-- One bit as a number. -/
def bitOf (b : Bool) : Nat := if b then 1 else 0

/-- The whole bytes clocked in a window, each most significant bit first; bits after the last whole byte are discarded
(R169). -/
def bytesOfBits : List Bool → List Byte
  | a :: b :: c :: d :: e :: f :: g :: h :: rest =>
    u8 (128 * bitOf a + 64 * bitOf b + 32 * bitOf c + 16 * bitOf d + 8 * bitOf e + 4 * bitOf f + 2 * bitOf g + bitOf h)
      :: bytesOfBits rest
  | _ => []

/-- The tag, code and payload of a frame whose length byte is `len` and whose bytes after it are `rest`, where its length and
its CRC are good (R172, step 5 of R173). -/
def parseFrame (len : Byte) (rest : List Byte) : Option (Byte × Byte × List Byte) :=
  if 4 ≤ len.toNat ∧ len.toNat ≤ 39 ∧ rest.length = len.toNat then
    match rest with
    | tag :: code :: more =>
      if more.getLast? = some (crc8 (tag :: code :: more.dropLast)) then some (tag, code, more.dropLast) else none
    | _ => none
  else none

/-- UNKNOWN_REQUEST (R174): answered UNKNOWN, reaching no block. -/
def execUnknownRequest (tag : Byte) (s : State) : Host.Outcome State Fault Refusal :=
  .next (s.submit tag (fun s => refuse s .unknown))

/-- IDENT (R178). -/
def execIdent (tag : Byte) (p : PadOnly) (s : State) : Host.Outcome State Fault Refusal :=
  .next (s.submit tag (fun s => withPad p s (fun s => answer s [0x44, 0xD8, 0x01])))

/-- A decoded request handed to the block that owns the state it names (R174). The decoder gives requests only; a happening is
no request and changes nothing here. -/
def takeRequest (i : Instr) (s : State) : Host.Outcome State Fault Refusal :=
  match i with
  | .unknownRequest t => execUnknownRequest t s
  | .settings t p => execSettings t p s
  | .settingsRead t p => execSettingsRead t p s
  | .setGrain t p => execSetGrain t p s
  | .startT t p => execStartT t p s
  | .stopT t p => execStopT t p s
  | .setT t p => execSetT t p s
  | .readT t p => execReadT t p s
  | .homeP t p => execHomeP t p s
  | .cancelHome t p => execCancelHome t p s
  | .setP t p => execSetP t p s
  | .readP t p => execReadP t p s
  | .chanConfig t p => execChanConfig t p s
  | .chanRead t p => execChanRead t p s
  | .arm t p => execArm t p s
  | .amend t p => execAmend t p s
  | .retire t p => execRetire t p s
  | .goGroup t p => execGoGroup t p s
  | .retireGroup t p => execRetireGroup t p s
  | .peek t p => execPeek t p s
  | .scan t p => execScan t p s
  | .nextDue t p => execNextDue t p s
  | .tableClear t p => execTableClear t p s
  | .senseConfig t p => execSenseConfig t p s
  | .readStamp t p => execReadStamp t p s
  | .bindWrite t p => execBindWrite t p s
  | .bindEnable t p => execBindEnable t p s
  | .bindDisable t p => execBindDisable t p s
  | .bindRead t p => execBindRead t p s
  | .quiesce t p => execQuiesce t p s
  | .resume t p => execResume t p s
  | .quiesceRead t p => execQuiesceRead t p s
  | .collect t p => execCollect t p s
  | .readAttention t p => execReadAttention t p s
  | .ackAttention t p => execAckAttention t p s
  | .setMask t p => execSetMask t p s
  | .ident t p => execIdent t p s
  | .softReset t p => execSoftReset t p s
  | .powerOn _ _ | .rstnLow | .rstnHigh _ | .grainTick | .fallingDue _ | .pulseEnd _ | .burstPhaseChange _
  | .encoderStep _ | .encoderFault | .enczRisingEdge | .senseEdge _ _ | .quiescenFallingEdge | .quiescenRisingEdge
  | .sweepEnd | .windowStart | .windowClose _ | .csnRiseAfterReset => .next s

/-- The window consumes the head response: it showed RDY and clocked every byte of the frame (R171). -/
def Window.consumes (w : Window) (count : Nat) : Bool := w.rdy && w.frame.length + 1 ≤ count

/-- The window showed FAULT: its status byte had it set, and all eight of its bits were clocked out (R170). -/
def Window.showedFault (w : Window) (count : Nat) : Bool := w.fault && 1 ≤ count

/-- The link after steps 1 and 2 of R173, the window closed. -/
def Link.closed (l : Link) (w : Window) (count : Nat) : Link :=
  { queue := if w.consumes count then l.queue.tail else l.queue
    refusal := l.refusal
    fault := l.fault && !w.showedFault count
    window := .idle }

/-- The close of window `w` with the given bytes clocked: the steps of R173. Steps 6 and 7 are those of the request itself
(`State.submitEntry`). -/
def State.closeWindow (s : State) (w : Window) (bytes : List Byte) : Host.Outcome State Fault Refusal :=
  let s1 := s.setLink (s.link.closed w bytes.length)
  match bytes with
  | [] => .next s1
  | len :: rest =>
    if len = 0 then .next (s1.setLink { s1.link with refusal := false })
    else
      match parseFrame len rest with
      | none => .next ((s1.setLink { s1.link with fault := true }).raise .linkFault)
      | some (tag, code, payload) => takeRequest (decodeRequest code tag payload) s1

/-- CSn rises without a window: the link's wait after a reset ends (R180). -/
def State.endWait (s : State) : State :=
  if s.link.window = .awaitRise then s.setLink { s.link with window := .idle } else s

/-- WINDOW_CLOSE (R169, R173). A rise of CSn that ends the wait after a reset is no window close (R180); with no window in
progress CSn is already high, and nothing changes. -/
def execWindowClose (mosi : List Bool) (s : State) : Host.Outcome State Fault Refusal :=
  if s.rstn = .low then .next s
  else
    match s.link.window with
    | .inProgress w => s.closeWindow w (bytesOfBits mosi)
    | _ => .next s.endWait

/-- CSN_RISE_AFTER_RESET (R180). -/
def execCsnRiseAfterReset (s : State) : Host.Outcome State Fault Refusal :=
  .next (if s.rstn = .low then s else s.endWait)

end Sys2Proof.Machine
end

