-- ==== Sys2Proof/Machine/Dispatch.lean ====
section
/-! DEFINITION. The dispatch: one arm for each command, in the opcode table's order, each a call of its own meaning. -/

namespace Sys2Proof.Machine

def exec (i : Instr) (s : State) : Host.Outcome State Fault Refusal :=
  match i with
  | .powerOn rstn lines => Sys2Proof.Machine.execPowerOn rstn lines s
  | .rstnLow => Sys2Proof.Machine.execRstnLow s
  | .rstnHigh lines => Sys2Proof.Machine.execRstnHigh lines s
  | .grainTick => Sys2Proof.Machine.execGrainTick s
  | .fallingDue claim => Sys2Proof.Machine.execFallingDue claim s
  | .pulseEnd c => Sys2Proof.Machine.execPulseEnd c s
  | .burstPhaseChange c => Sys2Proof.Machine.execBurstPhaseChange c s
  | .encoderStep d => Sys2Proof.Machine.execEncoderStep d s
  | .encoderFault => Sys2Proof.Machine.execEncoderFault s
  | .enczRisingEdge => Sys2Proof.Machine.execEnczRisingEdge s
  | .senseEdge n sample => Sys2Proof.Machine.execSenseEdge n sample s
  | .quiescenFallingEdge => Sys2Proof.Machine.execQuiescenFallingEdge s
  | .quiescenRisingEdge => Sys2Proof.Machine.execQuiescenRisingEdge s
  | .sweepEnd => Sys2Proof.Machine.execSweepEnd s
  | .windowStart => Sys2Proof.Machine.execWindowStart s
  | .windowClose mosi => Sys2Proof.Machine.execWindowClose mosi s
  | .unknownRequest tag => Sys2Proof.Machine.execUnknownRequest tag s
  | .settings tag p => Sys2Proof.Machine.execSettings tag p s
  | .settingsRead tag p => Sys2Proof.Machine.execSettingsRead tag p s
  | .setGrain tag p => Sys2Proof.Machine.execSetGrain tag p s
  | .startT tag p => Sys2Proof.Machine.execStartT tag p s
  | .stopT tag p => Sys2Proof.Machine.execStopT tag p s
  | .setT tag p => Sys2Proof.Machine.execSetT tag p s
  | .readT tag p => Sys2Proof.Machine.execReadT tag p s
  | .homeP tag p => Sys2Proof.Machine.execHomeP tag p s
  | .cancelHome tag p => Sys2Proof.Machine.execCancelHome tag p s
  | .setP tag p => Sys2Proof.Machine.execSetP tag p s
  | .readP tag p => Sys2Proof.Machine.execReadP tag p s
  | .chanConfig tag p => Sys2Proof.Machine.execChanConfig tag p s
  | .chanRead tag p => Sys2Proof.Machine.execChanRead tag p s
  | .arm tag p => Sys2Proof.Machine.execArm tag p s
  | .amend tag p => Sys2Proof.Machine.execAmend tag p s
  | .retire tag p => Sys2Proof.Machine.execRetire tag p s
  | .goGroup tag p => Sys2Proof.Machine.execGoGroup tag p s
  | .retireGroup tag p => Sys2Proof.Machine.execRetireGroup tag p s
  | .peek tag p => Sys2Proof.Machine.execPeek tag p s
  | .scan tag p => Sys2Proof.Machine.execScan tag p s
  | .nextDue tag p => Sys2Proof.Machine.execNextDue tag p s
  | .tableClear tag p => Sys2Proof.Machine.execTableClear tag p s
  | .senseConfig tag p => Sys2Proof.Machine.execSenseConfig tag p s
  | .readStamp tag p => Sys2Proof.Machine.execReadStamp tag p s
  | .bindWrite tag p => Sys2Proof.Machine.execBindWrite tag p s
  | .bindEnable tag p => Sys2Proof.Machine.execBindEnable tag p s
  | .bindDisable tag p => Sys2Proof.Machine.execBindDisable tag p s
  | .bindRead tag p => Sys2Proof.Machine.execBindRead tag p s
  | .quiesce tag p => Sys2Proof.Machine.execQuiesce tag p s
  | .resume tag p => Sys2Proof.Machine.execResume tag p s
  | .quiesceRead tag p => Sys2Proof.Machine.execQuiesceRead tag p s
  | .collect tag p => Sys2Proof.Machine.execCollect tag p s
  | .readAttention tag p => Sys2Proof.Machine.execReadAttention tag p s
  | .ackAttention tag p => Sys2Proof.Machine.execAckAttention tag p s
  | .setMask tag p => Sys2Proof.Machine.execSetMask tag p s
  | .ident tag p => Sys2Proof.Machine.execIdent tag p s
  | .softReset tag p => Sys2Proof.Machine.execSoftReset tag p s
  | .csnRiseAfterReset => Sys2Proof.Machine.execCsnRiseAfterReset s

end Sys2Proof.Machine
end

