-- ==== Sys2Proof/Machine/Step.lean ====
section
/-! DEFINITION. One step: the command at the front of the queue is taken with the rest of the queue waiting; on an empty
queue the part takes a command that is due by its own clocks, or else one REFCLK period passes (notes/assumptions/2.md). -/

namespace Sys2Proof.Machine

/-- One step of the part. -/
def step (s : State) : Host.Outcome State Fault Refusal :=
  match s.pending with
  | [] =>
    match s.ownCommand with
    | some c => exec c (s.setFreeIx (s.freeIx + 1))
    | none => .next s.refclkPeriod
  | c :: rest => exec c { s with pending := rest }

/-- The command that a word spells put at the front of the queue; the state unchanged where it spells none. -/
def State.withFetchWord (s : State) (nbits w : Nat) : State :=
  match decodeTableWord nbits w with
  | some i => { s with pending := i :: s.pending }
  | none => s

end Sys2Proof.Machine
end

