-- ==== Sys2Proof/Safety.lean ====
section
/-! DEFINITION. What a well-kept part is, in the terms the claims use: the invariants of the state, each taken from the rules
that promise it, and the form of a request's answer. -/

namespace Sys2Proof.Machine

/-! ### Answers -/

/-- The link takes the next good frame: RSTn is high, the refusal latch is clear and the queue has room (step 6 of R173,
R180). -/
def State.accepts (s : State) : Prop := s.rstn = .high ∧ s.link.refusal = false ∧ s.link.queue.length < 4

/-- The state `s` with one filled entry more at the tail of the response queue (R174, R176). -/
def State.answered (s : State) (tag : Byte) (r : Result) (payload : List Byte) : State :=
  { s with link := { s.link with
      queue := s.link.queue ++ [{ tag := tag, reply := some { result := r, payload := payload } }] } }

/-- The table is NORMAL (R22). -/
def State.normal (s : State) : Prop := s.table.sweep = none

/-- The record that a handle names: its slot is live and at the handle's generation (R3). -/
def State.names (s : State) (h : HandleItems) (i : SlotIx) (r : ActionRecord) : Prop :=
  h.slot.toNat = i.val ∧ s.table.recordAt i = some r ∧ (s.table.slot i).gen = h.gen

/-- The tag of a request; a happening at a pin or a clock has none (R172). -/
def requestTag : Instr → Option Byte
  | .unknownRequest t | .settings t _ | .settingsRead t _ | .setGrain t _ | .startT t _ | .stopT t _ | .setT t _ | .readT t _
  | .homeP t _ | .cancelHome t _ | .setP t _ | .readP t _ | .chanConfig t _ | .chanRead t _ | .arm t _ | .amend t _
  | .retire t _ | .goGroup t _ | .retireGroup t _ | .peek t _ | .scan t _ | .nextDue t _ | .tableClear t _ | .senseConfig t _
  | .readStamp t _ | .bindWrite t _ | .bindEnable t _ | .bindDisable t _ | .bindRead t _ | .quiesce t _ | .resume t _
  | .quiesceRead t _ | .collect t _ | .readAttention t _ | .ackAttention t _ | .setMask t _ | .ident t _ | .softReset t _ =>
    some t
  | .powerOn _ _ | .rstnLow | .rstnHigh _ | .grainTick | .fallingDue _ | .pulseEnd _ | .burstPhaseChange _ | .encoderStep _
  | .encoderFault | .enczRisingEdge | .senseEdge _ _ | .quiescenFallingEdge | .quiescenRisingEdge | .sweepEnd | .windowStart
  | .windowClose _ | .csnRiseAfterReset => none

/-- The chapter that specifies a request and its place among that chapter's requests, in the order of the rules that specify
them (R181). -/
def requestPlace : Instr → Option (Nat × Nat)
  | .settings _ _ => some (1, 1)
  | .settingsRead _ _ => some (1, 2)
  | .setGrain _ _ => some (2, 1)
  | .startT _ _ => some (2, 2)
  | .stopT _ _ => some (2, 3)
  | .setT _ _ => some (2, 4)
  | .readT _ _ => some (2, 5)
  | .homeP _ _ => some (2, 6)
  | .cancelHome _ _ => some (2, 7)
  | .setP _ _ => some (2, 8)
  | .readP _ _ => some (2, 9)
  | .chanConfig _ _ => some (4, 1)
  | .chanRead _ _ => some (4, 2)
  | .arm _ _ => some (5, 1)
  | .amend _ _ => some (5, 2)
  | .retire _ _ => some (5, 3)
  | .goGroup _ _ => some (5, 4)
  | .retireGroup _ _ => some (5, 5)
  | .peek _ _ => some (5, 6)
  | .scan _ _ => some (5, 7)
  | .nextDue _ _ => some (5, 8)
  | .tableClear _ _ => some (5, 9)
  | .senseConfig _ _ => some (6, 1)
  | .readStamp _ _ => some (6, 2)
  | .bindWrite _ _ => some (7, 1)
  | .bindEnable _ _ => some (7, 2)
  | .bindDisable _ _ => some (7, 3)
  | .bindRead _ _ => some (7, 4)
  | .quiesce _ _ => some (8, 1)
  | .resume _ _ => some (8, 2)
  | .quiesceRead _ _ => some (8, 3)
  | .collect _ _ => some (9, 1)
  | .readAttention _ _ => some (9, 2)
  | .ackAttention _ _ => some (9, 3)
  | .setMask _ _ => some (9, 4)
  | .ident _ _ => some (10, 1)
  | .softReset _ _ => some (10, 2)
  | .unknownRequest _ | .powerOn _ _ | .rstnLow | .rstnHigh _ | .grainTick | .fallingDue _ | .pulseEnd _
  | .burstPhaseChange _ | .encoderStep _ | .encoderFault | .enczRisingEdge | .senseEdge _ _ | .quiescenFallingEdge
  | .quiescenRisingEdge | .sweepEnd | .windowStart | .windowClose _ | .csnRiseAfterReset => none

/-! ### What the rules look for in the table -/

/-- Some record of domain `d` is ARMED or SUSPENDED (R25, R29, R35, R39). -/
def State.hasWaiting (s : State) (d : Domain) : Prop :=
  ∃ i r due, s.table.recordAt i = some r ∧ r.what.base.domain = d ∧ (r.phase = .armed due ∨ r.phase = .suspended due)

/-- Some PARKED, ARMED or SUSPENDED record names channel `c` (R8, R67). -/
def State.locked (s : State) (c : ChannelIx) : Prop :=
  ∃ i r a, s.table.recordAt i = some r ∧ r.what.work = .onChannel c a ∧ r.phase.isDone = false

/-- The timebase stands on the due value: TB-T for TIME; TB-P, reached by a step in the record's direction, for POSITION
(R42, R43). -/
def Timebases.reached (t : Timebases) (b : Base) (due : Word) : Prop :=
  match b with
  | .time => due = t.tbT
  | .position d => due = t.tbP ∧ t.lastDir = some d

/-- The record of slot `i` is one of domain `d` on channel `c` whose claim is to be taken (R42, R43, R44). -/
def State.dueOn (s : State) (d : Domain) (c : ChannelIx) (i : SlotIx) : Prop :=
  ∃ r due a, s.table.recordAt i = some r ∧ r.phase = .armed due ∧ r.what.work = .onChannel c a
    ∧ r.what.base.domain = d ∧ s.time.reached r.what.base due

/-- The command's happening has come about by the part's own clocks and timebases and is still to be taken: a grain has had all
of its periods, a claim has a due record, a pulse's end tick has been reached, a burst phase's periods have run out
(R24, R42, R43, R78, R79). -/
def State.comesDue (s : State) (c : Instr) : Prop :=
  match c with
  | .grainTick => s.time.divisor ≤ s.time.grainPhase
  | .fallingDue (.channel d x) => ∃ i, s.dueOn d x i
  | .fallingDue (.mark i) => ∃ r due, s.table.recordAt i = some r ∧ r.phase = .armed due ∧ r.what.work = .mark
      ∧ s.time.reached r.what.base due
  | .pulseEnd x => ∃ q h, (s.channels[x]).state = .pulse q h 0
  | .burstPhaseChange x => ∃ q h p n hi lo, (s.channels[x]).state = .burst q h p 0 n hi lo
  | _ => False

/-- The happening is a claim of domain `d` that has come about and is still to be taken (R42, R43, R50). -/
def State.claimComesDue (s : State) (d : Domain) (x : Happening) : Prop :=
  s.comesDue x.command ∧ match x with
    | .claim (.channel e _) => e = d
    | .claim (.mark i) => ∃ r, s.table.recordAt i = some r ∧ r.what.base.domain = d
    | _ => False

/-- Slot `i` comes before slot `j` in a channel's tie order: priority highest first, then slot lowest first (R49). -/
def State.firesBefore (s : State) (i j : SlotIx) : Prop :=
  ∃ r q, s.table.recordAt i = some r ∧ s.table.recordAt j = some q
    ∧ (q.what.priority < r.what.priority ∨ (q.what.priority = r.what.priority ∧ i < j))

/-- Slot `i` is the lowest FREE slot (R12). -/
def State.lowestFree (s : State) (i : SlotIx) : Prop :=
  s.table.recordAt i = none ∧ ∀ j, j < i → s.table.recordAt j ≠ none

end Sys2Proof.Machine

namespace Sys2Proof

/-! ### Items that meet the rules -/

/-- A burst item in range (R89). -/
def BurstItems.InRange (b : BurstItems) : Prop :=
  1 ≤ b.high ∧ b.high ≤ 255 ∧ 1 ≤ b.low ∧ b.low ≤ 255 ∧ 1 ≤ b.cycles ∧ b.cycles ≤ 4095

/-- A repeat item in range for a domain, with a remaining count or endless (R89). -/
def RepeatItems.InRange (d : Domain) (x : RepeatItems) : Prop :=
  1 ≤ x.interval ∧ x.interval ≤ Config.horizon d ∧ (x.run = some .endless ∨ ∃ n, n ≤ 65535 ∧ x.run = some (.counted n))

/-- The items that the tables of R89 and R123 have in common, each required, forbidden and in range as they say. -/
structure RecordItems.Meets (i : RecordItems) : Prop where
  direction : i.domain = .position ↔ i.direction ≠ none
  no_channel : i.kind = .mark → i.channel = none
  channel : i.kind ≠ .mark → ∃ c, i.channel = some c ∧ c ≤ 15
  width : i.kind = .pulse → ∃ w, i.width = some w ∧ 1 ≤ w ∧ w ≤ 65535
  no_width : i.kind ≠ .pulse → i.width = none
  burst : i.kind = .burst → ∃ b, i.burst = some b ∧ b.InRange
  no_burst : i.kind ≠ .burst → i.burst = none
  priority : i.priority ≤ 3
  rep : ∀ x, i.rep = some x → x.InRange i.domain

/-- The items of an ARM that R89 does not refuse. -/
structure ArmItems.Meets (a : ArmItems) : Prop where
  items : a.items.Meets
  value : a.value ≠ none
  offset : a.form = .offset → ∀ v, a.value = some v → 1 ≤ v.toNat ∧ v.toNat ≤ Config.horizon a.items.domain
  group : ∀ g, a.group = some g → 1 ≤ g ∧ g ≤ 15
  parked : a.start = .parked → a.form = .offset ∧ a.group ≠ none

/-- The items of an AMEND that step 2 of R92 does not refuse for a record. -/
structure AmendBody.Meets (b : AmendBody) (r : Machine.ActionRecord) : Prop where
  some_item : b.due ≠ none ∨ b.width ≠ none ∨ b.burst ≠ none ∨ b.priority ≠ none ∨ b.rep ≠ none ∨ b.keep ≠ none
    ∨ b.miss ≠ none ∨ b.group ≠ none
  not_fixed : b.namesFixed = false
  offset : ∀ v, b.due = some (.offset, v) → 1 ≤ v.toNat ∧ v.toNat ≤ Config.horizon r.what.base.domain
  absolute : ∀ v, b.due = some (.absolute, v) → ∀ n, r.phase ≠ .parked n
  width : ∀ w, b.width = some w → (1 ≤ w ∧ w ≤ 65535) ∧ ∃ c n, r.what.work = .onChannel c (.pulse n)
  burst : ∀ x, b.burst = some x → x.InRange ∧ ∃ c y, r.what.work = .onChannel c (.burst y)
  priority : ∀ p, b.priority = some p → p ≤ 3
  rep : ∀ x, b.rep = some (.set x) → x.InRange r.what.base.domain
  group : ∀ g, b.group = some g → g ≤ 15
  kept_group : b.group = some 0 → ∀ n, r.phase ≠ .parked n

/-- The record's template is what the items say (R91, R134). -/
structure RecordItems.Gives (i : RecordItems) (w : Machine.Template) : Prop where
  base : w.base = match i.domain, i.direction with
    | .position, some d => .position d
    | _, _ => .time
  work : match i.kind with
    | .mark => w.work = .mark
    | .assert => ∃ c, i.channel = some c.val ∧ w.work = .onChannel c .assert
    | .release => ∃ c, i.channel = some c.val ∧ w.work = .onChannel c .release
    | .toggle => ∃ c, i.channel = some c.val ∧ w.work = .onChannel c .toggle
    | .pulse => ∃ c n, i.channel = some c.val ∧ i.width = some n ∧ w.work = .onChannel c (.pulse n)
    | .burst => ∃ c b, i.channel = some c.val ∧ i.burst = some b
        ∧ w.work = .onChannel c (.burst { high := b.high, low := b.low, cycles := b.cycles })
  priority : w.priority.val = i.priority
  rep : match i.rep with
    | none => w.rep = none
    | some x => ∃ y, w.rep = some y ∧ y.interval = x.interval ∧ (∀ n, x.run = some (.counted n) → y.remaining = some n)
        ∧ (x.run = some .endless → y.remaining = none)
  keep : w.keep = i.keep
  miss : w.miss = i.miss

end Sys2Proof

namespace Sys2Proof.Machine

/-- The record `r` as an accepted AMEND with the items `b` leaves it (R93). -/
structure AmendedAs (s : State) (r : ActionRecord) (b : AmendBody) (r' : ActionRecord) : Prop where
  kept : r'.origin = r.origin ∧ r'.what.base = r.what.base ∧ r'.fired = r.fired ∧ r'.late = r.late
    ∧ r'.conflict = r.conflict ∧ r'.missed = r.missed ∧ r'.last = r.last
  work : r'.what.work = match r.what.work with
    | .onChannel c (.pulse w) => .onChannel c (.pulse (b.width.getD w))
    | .onChannel c (.burst y) => .onChannel c (.burst (match b.burst with
        | some x => { high := x.high, low := x.low, cycles := x.cycles }
        | none => y))
    | w => w
  priority : r'.what.priority.val = b.priority.getD r.what.priority.val
  rep : match b.rep with
    | none => r'.what.rep = r.what.rep
    | some .remove => r'.what.rep = none
    | some (.set x) => ∃ y, r'.what.rep = some y ∧ y.interval = x.interval
        ∧ (∀ n, x.run = some (.counted n) → y.remaining = some n) ∧ (x.run = some .endless → y.remaining = none)
  keep : r'.what.keep = b.keep.getD r.what.keep
  miss : r'.what.miss = b.miss.getD r.what.miss
  group : r'.group = match b.group with
    | none => r.group
    | some g => some g
  phase : r'.phase = match b.due, r.phase with
    | none, p => p
    | some (_, v), .parked _ => .parked v.toNat
    | some (.absolute, v), _ => .armed v
    | some (.offset, v), _ => .armed (match r.what.base with
        | .time => s.time.tbT + v
        | .position .fwd => s.time.tbP + v
        | .position .rev => s.time.tbP - v)

/-- How far a due value lies ahead of now (R90): forward for TIME, in the record's direction for POSITION, modulo 2^32. -/
def State.ahead (s : State) (b : Base) (due : Word) : Nat :=
  match b with
  | .time => (due - s.time.tbT).toNat
  | .position .fwd => (due - s.time.tbP).toNat
  | .position .rev => (s.time.tbP - due).toNat

/-- Slot `i` stands no later than slot `j` in the time due order: fewest grains ahead first, then priority highest first, then
slot lowest first (R18). -/
def State.dueNoLater (s : State) (i j : SlotIx) : Prop :=
  ∃ r q d e, s.table.recordAt i = some r ∧ s.table.recordAt j = some q ∧ r.phase = .armed d ∧ q.phase = .armed e
    ∧ ((d - s.time.tbT).toNat < (e - s.time.tbT).toNat
      ∨ ((d - s.time.tbT).toNat = (e - s.time.tbT).toNat
        ∧ (q.what.priority < r.what.priority ∨ (q.what.priority = r.what.priority ∧ i ≤ j))))

/-! ### How a record's work ends -/

/-- A 32-bit value as four bytes, most significant first (R183). -/
def wordBytes (w : Word) : List Byte :=
  [w.extractLsb' 24 8, w.extractLsb' 16 8, w.extractLsb' 8 8, w.extractLsb' 0 8]

/-- A 16-bit value as two bytes, most significant first (R183). -/
def twoBytes (n : Nat) : List Byte := [BitVec.ofNat 8 (n / 256), BitVec.ofNat 8 n]

/-! ### Images, byte by byte (Tables 11-2 and 11-3) -/

/-- Bytes 0 and 1 of an image hold what a template says, each item in its bits (Table 11-2). -/
structure TemplateLaid (w : Template) (p : List Byte) : Prop where
  domain : (p.getD 0 0).getLsbD 4 = true ↔ w.base ≠ .time
  direction : (p.getD 0 0).getLsbD 5 = true ↔ w.base = .position .rev
  keep : (p.getD 0 0).getLsbD 6 = w.keep
  miss : (p.getD 0 0).getLsbD 7 = true ↔ w.miss = .hold
  kind : (p.getD 1 0).extractLsb' 0 3 = match w.work with
    | .onChannel _ .assert => 0
    | .onChannel _ .release => 1
    | .onChannel _ .toggle => 2
    | .onChannel _ (.pulse _) => 3
    | .onChannel _ (.burst _) => 4
    | .mark => 5
  priority : (p.getD 1 0).extractLsb' 3 2 = BitVec.ofNat 2 w.priority.val
  rep : (p.getD 1 0).extractLsb' 5 2 = match w.rep with
    | none => 0
    | some { interval := _, remaining := some _ } => 1
    | some { interval := _, remaining := none } => 2

/-- An action as a channel counts it from this instant on (R73, R75): a pulse ends at its w-th tick, where a tick of this very
instant, which is still to come once the grain has had all of its periods, is not one of them. -/
def State.counting (s : State) : ChanAction → ChanAction
  | .pulse w => .pulse (if s.time.divisor ≤ s.time.grainPhase then w + 1 else w)
  | a => a

/-- The channel that an image shows, 0 for MARK (Tables 11-2 and 11-3). -/
def shownChannel : Work → BitVec 4
  | .mark => 0
  | .onChannel c _ => BitVec.ofNat 4 c.val

/-- The 31 bytes of a record image (R98, R184, Table 11-2). -/
structure RecordLaid (h : Handle) (r : ActionRecord) (p : List Byte) : Prop where
  length : p.length = 31
  template : TemplateLaid r.what p
  state : (p.getD 0 0).extractLsb' 0 3 = match r.phase with
    | .parked _ => 1
    | .armed _ => 2
    | .suspended _ => 3
    | .done _ _ => 4
  form : (p.getD 0 0).getLsbD 3 = false
  absent : (p.getD 1 0).getLsbD 7 = true ↔ ∃ why, r.phase = .done none why
  channel : (p.getD 2 0).extractLsb' 0 4 = shownChannel r.what.work
  group : (p.getD 2 0).extractLsb' 4 4 = BitVec.ofNat 4 (r.group.getD 0)
  due : (p.drop 3).take 4 = wordBytes (match r.phase with
    | .parked n => BitVec.ofNat 32 n
    | .armed d => d
    | .suspended d => d
    | .done d _ => d.getD 0)
  rep : (p.drop 7).take 6 = match r.what.rep with
    | none => [0, 0, 0, 0, 0, 0]
    | some x => wordBytes (BitVec.ofNat 32 x.interval) ++ twoBytes (x.remaining.getD 0)
  work : (p.drop 13).take 4 = match r.what.work with
    | .onChannel _ (.pulse w) => twoBytes w ++ [0, 0]
    | .onChannel _ (.burst b) => twoBytes b.cycles ++ [BitVec.ofNat 8 b.high, BitVec.ofNat 8 b.low]
    | _ => [0, 0, 0, 0]
  handle : (p.drop 17).take 2 = [BitVec.ofNat 8 h.slot.val, h.gen]
  origin : (p.drop 19).take 3 = match r.origin with
    | .host => [0, 0, 0]
    | .binding b n => BitVec.ofNat 8 (128 + b.val) :: twoBytes n
  counts : (p.drop 22).take 8 = twoBytes r.fired ++ twoBytes r.late ++ twoBytes r.conflict ++ twoBytes r.missed
  last : (p.getD 30 0).extractLsb' 0 3 = match r.last with
    | .none => 0
    | .fired => 1
    | .merged => 2
    | .late => 3
    | .conflict => 4
    | .missed => 5
  reason : (p.getD 30 0).extractLsb' 3 3 = match r.phase with
    | .done _ .completed => 1
    | .done _ .retired => 2
    | .done _ .groupRetired => 3
    | .done _ .bindingRetired => 4
    | _ => 0

/-- The 6 to 16 bytes of a spawn-step image (Table 11-3). -/
structure StepLaid (y : SpawnStep) (p : List Byte) : Prop where
  template : TemplateLaid y.what p
  channel : (p.getD 0 0).extractLsb' 0 4 = shownChannel y.what.work
  clear : (p.getD 1 0).getLsbD 7 = false
  rest : p.drop 2 = wordBytes (BitVec.ofNat 32 y.offset)
    ++ (match y.what.work with
      | .onChannel _ (.pulse w) => twoBytes w
      | .onChannel _ (.burst b) => [BitVec.ofNat 8 b.high, BitVec.ofNat 8 b.low] ++ twoBytes b.cycles
      | _ => [])
    ++ (match y.what.rep with
      | none => []
      | some { interval := k, remaining := some n } => wordBytes (BitVec.ofNat 32 k) ++ twoBytes n
      | some { interval := k, remaining := none } => wordBytes (BitVec.ofNat 32 k))

/-- The 17 record bytes of an ARM that carries these items (R183, Table 11-2). -/
structure ArmLaid (a : ArmItems) (p : List Byte) : Prop where
  length : p.length = 17
  start : (p.getD 0 0).extractLsb' 0 3 = if a.start = .parked then 1 else 2
  form : (p.getD 0 0).getLsbD 3 = true ↔ a.form = .absolute
  domain : (p.getD 0 0).getLsbD 4 = true ↔ a.items.domain = .position
  direction : (p.getD 0 0).getLsbD 5 = true ↔ a.items.direction = some .rev
  keep : (p.getD 0 0).getLsbD 6 = a.items.keep
  miss : (p.getD 0 0).getLsbD 7 = true ↔ a.items.miss = .hold
  kind : (p.getD 1 0).extractLsb' 0 3 = match a.items.kind with
    | .assert => 0
    | .release => 1
    | .toggle => 2
    | .pulse => 3
    | .burst => 4
    | .mark => 5
  priority : (p.getD 1 0).extractLsb' 3 2 = BitVec.ofNat 2 a.items.priority
  rep : (p.getD 1 0).extractLsb' 5 2 = match a.items.rep with
    | some { interval := _, run := some (.counted _) } => 1
    | some { interval := _, run := some .endless } => 2
    | _ => 0
  clear : (p.getD 1 0).getLsbD 7 = false
  channel : (p.getD 2 0).extractLsb' 0 4 = BitVec.ofNat 4 (a.items.channel.getD 0)
  group : (p.getD 2 0).extractLsb' 4 4 = BitVec.ofNat 4 (a.group.getD 0)
  due : ∀ v, a.value = some v → (p.drop 3).take 4 = wordBytes v
  interval : (p.drop 7).take 4 = match a.items.rep with
    | none => [0, 0, 0, 0]
    | some x => wordBytes (BitVec.ofNat 32 x.interval)
  remaining : (p.drop 11).take 2 = match a.items.rep with
    | some { interval := _, run := some (.counted n) } => twoBytes n
    | _ => [0, 0]
  work : (p.drop 13).take 4 = match a.items.kind, a.items.width, a.items.burst with
    | .pulse, some w, _ => twoBytes w ++ [0, 0]
    | .burst, _, some b => twoBytes b.cycles ++ [BitVec.ofNat 8 b.high, BitVec.ofNat 8 b.low]
    | _, _, _ => [0, 0, 0, 0]

/-- The selection and the 17 record bytes of an AMEND that carries these items; nothing is said of the bytes of an item that is
not selected (R183, R185, Table 11-2). -/
structure AmendLaid (b : AmendBody) (sel : BitVec 16) (p : List Byte) : Prop where
  length : p.length = 17
  clear : sel.extractLsb' 13 3 = 0
  selected : [b.due.isSome, b.width.isSome, b.burst.isSome, b.priority.isSome, b.rep.isSome, b.keep.isSome, b.miss.isSome,
    b.group.isSome] = (List.range 8).map sel.getLsbD
  fixed : b.namesFixed = true ↔ sel.extractLsb' 8 5 ≠ 0
  due : ∀ f v, b.due = some (f, v) → ((p.getD 0 0).getLsbD 3 = true ↔ f = .absolute) ∧ (p.drop 3).take 4 = wordBytes v
  width : ∀ w, b.width = some w → w ≤ 65535 ∧ (p.drop 13).take 2 = twoBytes w
  burst : ∀ x, b.burst = some x → x.cycles ≤ 65535 ∧ x.high ≤ 255 ∧ x.low ≤ 255
    ∧ (p.drop 13).take 4 = twoBytes x.cycles ++ [BitVec.ofNat 8 x.high, BitVec.ofNat 8 x.low]
  priority : ∀ q, b.priority = some q → q ≤ 3 ∧ (p.getD 1 0).extractLsb' 3 2 = BitVec.ofNat 2 q
  removed : b.rep = some .remove → (p.getD 1 0).extractLsb' 5 2 = 0 ∧ (p.drop 7).take 6 = [0, 0, 0, 0, 0, 0]
  rep : ∀ x, b.rep = some (.set x) → x.interval < 2 ^ 32 ∧ (p.drop 7).take 4 = wordBytes (BitVec.ofNat 32 x.interval)
    ∧ ((∃ n, n ≤ 65535 ∧ x.run = some (.counted n) ∧ (p.getD 1 0).extractLsb' 5 2 = 1 ∧ (p.drop 11).take 2 = twoBytes n)
      ∨ (x.run = some .endless ∧ (p.getD 1 0).extractLsb' 5 2 = 2 ∧ (p.drop 11).take 2 = [0, 0]))
  keep : ∀ k, b.keep = some k → (p.getD 0 0).getLsbD 6 = k
  miss : ∀ m, b.miss = some m → ((p.getD 0 0).getLsbD 7 = true ↔ m = .hold)
  group : ∀ g, b.group = some g → g ≤ 15 ∧ (p.getD 2 0).extractLsb' 4 4 = BitVec.ofNat 4 g

/-- How the payload bytes `p` of each request are read, by the layouts of Table 11-1 and the faults of R185, under the code that
R181 gives it. ARM's record bytes are `ArmLaid`, AMEND's `AmendLaid`, and BIND_WRITE's step images `StepLaid`. -/
structure PayloadsRead (tag : Byte) (p : List Byte) : Prop where
  pad : ∀ x ∈ ([(0x12, .settingsRead), (0x22, .startT), (0x23, .stopT), (0x25, .readT), (0x27, .cancelHome), (0x29, .readP),
      (0x58, .nextDue), (0x59, .tableClear), (0x81, .quiesce), (0x82, .resume), (0x83, .quiesceRead), (0x92, .readAttention),
      (0xA1, .ident), (0xA2, .softReset)] : List (Byte × (Byte → PadOnly → Instr))),
    decodeRequest x.1 tag p = x.2 tag (if p.length = 1 then .fits () else .unfit)
  number : ∀ x ∈ ([(0x42, .chanRead), (0x54, .goGroup), (0x55, .retireGroup), (0x57, .scan), (0x62, .readStamp),
      (0x72, .bindEnable), (0x74, .bindRead)] : List (Byte × (Byte → Payload Nat → Instr))),
    (∀ b, p = [b] → decodeRequest x.1 tag p = x.2 tag (.fits b.toNat))
    ∧ (p.length ≠ 1 → decodeRequest x.1 tag p = x.2 tag .unfit)
  value : ∀ x ∈ ([(0x24, .setT), (0x26, .homeP), (0x28, .setP)] : List (Byte × (Byte → Payload Word → Instr))),
    (∀ v, p = wordBytes v → decodeRequest x.1 tag p = x.2 tag (.fits v))
    ∧ (p.length ≠ 4 → decodeRequest x.1 tag p = x.2 tag .unfit)
  handle : ∀ x ∈ ([(0x53, .retire), (0x56, .peek)] : List (Byte × (Byte → Payload HandleItems → Instr))),
    (∀ i g, p = [i, g] → decodeRequest x.1 tag p = x.2 tag (.fits { slot := i, gen := g }))
    ∧ (p.length ≠ 2 → decodeRequest x.1 tag p = x.2 tag .unfit)
  collect : (p.length = 1 → decodeRequest 0x91 tag p = .collect tag (.fits none))
    ∧ (∀ i g, p = [i, g] → decodeRequest 0x91 tag p = .collect tag (.fits (some { slot := i, gen := g })))
    ∧ (p.length ≠ 1 → p.length ≠ 2 → decodeRequest 0x91 tag p = .collect tag .unfit)
  causes : ∀ x ∈ ([(0x93, .ackAttention), (0x94, .setMask)] : List (Byte × (Byte → Payload CauseSet → Instr))),
    (∀ a b : Byte, p = [a, b] → decodeRequest x.1 tag p =
      x.2 tag (if a.extractLsb' 3 5 = 0 then .fits ((a ++ b).extractLsb' 0 11) else .unfit))
    ∧ (p.length ≠ 2 → decodeRequest x.1 tag p = x.2 tag .unfit)
  settings : (∀ r t, p = [r, t] → decodeRequest 0x11 tag p =
      .settings tag (.fits { reserve := r.toNat, lowThreshold := t.toNat }))
    ∧ (p.length ≠ 2 → decodeRequest 0x11 tag p = .settings tag .unfit)
  divisor : (∀ n, n ≤ 65535 → p = twoBytes n → decodeRequest 0x21 tag p = .setGrain tag (.fits n))
    ∧ (p.length ≠ 2 → decodeRequest 0x21 tag p = .setGrain tag .unfit)
  chanConfig : (∀ c b : Byte, p = [c, b] →
      let read (safe : SafeLevel) : Instr := .chanConfig tag (.fits
        { channel := c.toNat, rest := if b.getLsbD 0 = true then .high else .low, safe := safe
          policy := if b.getLsbD 3 = true then .merge else .strict })
      (∀ safe, b.extractLsb' 1 2 = (match safe with
          | .rest => 0
          | .active => 1
          | .keep => 2) →
        (b.extractLsb' 4 4 = 0 → decodeRequest 0x41 tag p = read safe)
        ∧ (decodeRequest 0x41 tag p = read safe ∨ decodeRequest 0x41 tag p = .chanConfig tag .unfit))
      ∧ (b.extractLsb' 1 2 = 3 → decodeRequest 0x41 tag p = .chanConfig tag .unfit))
    ∧ (p.length ≠ 2 → decodeRequest 0x41 tag p = .chanConfig tag .unfit)
  senseConfig : (∀ (n f k : Byte) (gap : Nat), gap ≤ 65535 → p = [n, f, k] ++ twoBytes gap →
      let read (edges : EdgeSel) : Instr := .senseConfig tag (.fits
        { input := n.toNat, enable := f.getLsbD 0, edges := edges, prescale := k.toNat, gap := gap })
      (∀ edges, f.extractLsb' 1 2 = (match edges with
          | .rise => 0
          | .fall => 1
          | .both => 2) →
        (f.extractLsb' 3 5 = 0 → decodeRequest 0x61 tag p = read edges)
        ∧ (decodeRequest 0x61 tag p = read edges ∨ decodeRequest 0x61 tag p = .senseConfig tag .unfit))
      ∧ (f.extractLsb' 1 2 = 3 → decodeRequest 0x61 tag p = .senseConfig tag .unfit))
    ∧ (p.length ≠ 5 → decodeRequest 0x61 tag p = .senseConfig tag .unfit)
  arm : (∀ a : ArmItems, a.Meets → ArmLaid a p → decodeRequest 0x51 tag p = .arm tag (.fits a))
    ∧ (p.length ≠ 17 → decodeRequest 0x51 tag p = .arm tag .unfit)
  amend : (∀ (i g : Byte) (rest : List Byte), p = i :: g :: rest → ∃ body,
      decodeRequest 0x52 tag p = .amend tag (.fits { handle := { slot := i, gen := g }, body := body })
      ∧ (∀ (b : AmendBody) (sel : BitVec 16) (bytes : List Byte),
          rest = sel.extractLsb' 8 8 :: sel.extractLsb' 0 8 :: bytes →
          (AmendLaid b sel bytes → body = .fits b) ∧ (sel.extractLsb' 13 3 ≠ 0 → body = .unfit))
      ∧ (rest.length ≠ 19 → body = .unfit))
    ∧ (p.length < 2 → decodeRequest 0x52 tag p = .amend tag .unfit)
  bindWrite : (∀ (b n : Byte) (images : List Byte), p = b :: n :: images → decodeRequest 0x71 tag p =
      .bindWrite tag (match takeSteps 4 images with
        | some steps => .fits { binding := b.toNat, input := n.toNat, steps := steps }
        | none => .unfit))
    ∧ (p.length < 2 → decodeRequest 0x71 tag p = .bindWrite tag .unfit)
  bindDisable : (∀ b o : Byte, p = [b, o] → decodeRequest 0x73 tag p = .bindDisable tag
      (if o = 0 then .fits { binding := b.toNat, retire := false }
        else if o = 1 then .fits { binding := b.toNat, retire := true } else .unfit))
    ∧ (p.length ≠ 2 → decodeRequest 0x73 tag p = .bindDisable tag .unfit)

/-! ### What becomes of one record or of several -/

/-- From `s` to `t` the record `r` of slot `i` became DONE with its due value and an end reason, at the tail of the done list,
and nothing else changed (R58, R94). -/
structure KeptDone (s t : State) (i : SlotIx) (r : ActionRecord) (reason : EndReason) : Prop where
  frame : t = { s with table := { s.table with
    slots := t.table.slots, suspended := s.table.suspended.erase i, doneList := s.table.doneList ++ [i] } }
  slot : t.table.slot i = { s.table.slot i with content := some { r with phase := .done r.phase.due reason } }
  others : ∀ j, j ≠ i → t.table.slot j = s.table.slot j

/-- From `s` to `t` slot `i` became FREE at its next generation, left the lists, and its binding's live count fell by one;
nothing else changed (R2, R5, R59). -/
structure Freed (s t : State) (i : SlotIx) (r : ActionRecord) : Prop where
  frame : t = { s with
    table := { s.table with
      slots := t.table.slots, suspended := s.table.suspended.erase i, doneList := s.table.doneList.erase i }
    bindings := t.bindings }
  slot : t.table.slot i = { s.table.slot i with gen := (s.table.slot i).gen + 1, content := none }
  others : ∀ j, j ≠ i → t.table.slot j = s.table.slot j
  bindings : ∀ b : BindingIx, t.bindings[b] = { s.bindings[b] with live := match r.origin with
    | .host => (s.bindings[b]).live
    | .binding x _ => if x = b then (s.bindings[b]).live - 1 else (s.bindings[b]).live }

/-- From `s` to `t` the records of the slots `hit` were retired in ascending slot order: those with keep DONE at the tail of the
done list, the others freed; no other slot and, but for the bindings, nothing else changed (R94, R97, R129). -/
structure RetiredTogether (s t : State) (hit : SlotIx → Bool) (reason : EndReason) : Prop where
  frame : t = { s with
    table := { s.table with
      slots := t.table.slots
      suspended := s.table.suspended.filter (fun i => !hit i)
      doneList := s.table.doneList
        ++ (List.finRange 128).filter (fun i => hit i && (s.table.recordAt i).any (fun r => r.what.keep)) }
    bindings := t.bindings }
  kept : ∀ i r, hit i = true → s.table.recordAt i = some r → r.what.keep = true →
    t.table.slot i = { s.table.slot i with content := some { r with phase := .done r.phase.due reason } }
  freed : ∀ i r, hit i = true → s.table.recordAt i = some r → r.what.keep = false →
    t.table.slot i = { s.table.slot i with gen := (s.table.slot i).gen + 1, content := none }
  others : ∀ i, hit i = false → t.table.slot i = s.table.slot i

/-! ### Resets -/

/-- Every block but the link and the generations at the values the reset tables give, the references as given
(R23, R41, R85, R121, R138, R154, R168). -/
structure AtResetValues (t : State) (enca encb encz quiescen : Level) (sen : SenseIx → Level) : Prop where
  slots : ∀ i, t.table.recordAt i = none ∧ (t.table.slot i).awaiting = false
  collections : t.table.suspended = [] ∧ t.table.doneList = []
  settings : t.table.reserve = 8 ∧ t.table.lowThreshold = 16
  normal : t.table.sweep = none
  timebases : t.time = { divisor := 16, grainPhase := 0, tbT := 0, running := false, tbP := 0, homing := false,
                         homeValue := 0, lastDir := none, encA := enca, encB := encb, encZ := encz }
  channels : ∀ c : ChannelIx, t.channels[c] = { state := .safe, line := .low, rest := .low, safe := .rest,
                                                policy := .strict, conflicts := 0, merges := 0, preemptions := 0 }
  senses : ∀ n : SenseIx, t.senses[n] = { lineRef := sen n, enable := false, edges := .rise, prescale := 1, minGap := 0,
                                          prescaleCount := 0, gapTracker := none, stampT := 0, stampP := 0,
                                          polarity := none, unread := false, overrun := false }
  bindings : ∀ b : BindingIx, t.bindings[b] = { input := 0, enabled := false, steps := [], ordinal := 0, live := 0,
                                                fails := 0, lastFail := none }
  quiesce : t.quiesce = { latch := true, mirror := quiescen }
  attention : (∀ k : Fin 11, t.attention.causes[k] = { pending := false, count := 0, masked := false })
    ∧ t.attention.lastMark = none

/-- After the end of a power-on or hardware reset: the reset values with every generation 0, and the link empty (R23, R180). -/
structure AfterHardwareReset (s t : State) (l : Lines) : Prop where
  values : AtResetValues t l.enca l.encb l.encz l.quiescen (fun n => l.sen[n])
  generations : ∀ i, (t.table.slot i).gen = 0
  link : t.link = { queue := [], refusal := false, fault := false,
                    window := if l.csn = .low then .awaitRise else .idle }
  rstn : t.rstn = .high
  kept : t.pending = s.pending ∧ t.freeIx = s.freeIx

/-- While RSTn is low: the link empty with its latches clear and no window, every OUT line and ATTN LOW, the part quiesced and
no record held (R85, R167, R180). -/
structure HeldInReset (s t : State) : Prop where
  rstn : t.rstn = .low
  link : t.link = { queue := [], refusal := false, fault := false, window := .idle }
  lines : ∀ c : ChannelIx, (t.channels[c]).line = .low
  attn : t.attention.attn = .low
  quiesced : t.quiesced = true
  free : ∀ i, t.table.recordAt i = none
  kept : t.pending = s.pending ∧ t.freeIx = s.freeIx

/-! ### Invariants of the table -/

/-- The suspended list holds exactly the SUSPENDED records and the done list exactly the DONE records, each once
(R17, R20, R21). -/
structure CollectionsExact (s : State) : Prop where
  suspended_nodup : s.table.suspended.Nodup
  done_nodup : s.table.doneList.Nodup
  suspended_iff : ∀ i, i ∈ s.table.suspended ↔ ∃ r, s.table.recordAt i = some r ∧ r.phase.isSuspended = true
  done_iff : ∀ i, i ∈ s.table.doneList ↔ ∃ r, s.table.recordAt i = some r ∧ r.phase.isDone = true

/-- Each binding's live count equals the number of slots whose record came from it (R124). -/
def LiveCountsExact (s : State) : Prop := ∀ b : BindingIx, s.bindings[b].live = (s.table.slotsWith (·.isFrom b)).length

/-- While the table is SWEEPING every slot is FREE and every collection empty, and while it is NORMAL no slot awaits its
generation step (R22, R106). -/
structure SweepConsistent (s : State) : Prop where
  sweeping_empty : s.table.sweep ≠ none →
    (∀ i, s.table.recordAt i = none) ∧ s.table.suspended = [] ∧ s.table.doneList = []
  normal_unmarked : s.table.sweep = none → ∀ i, (s.table.slot i).awaiting = false

/-- A PARKED record is the host's and carries a group; a spawned record carries none (R4, R9). -/
structure GroupsConsistent (s : State) : Prop where
  parked : ∀ i r, s.table.recordAt i = some r → r.phase.isParked = true → r.origin = .host ∧ r.group ≠ none
  spawned : ∀ i r, s.table.recordAt i = some r → r.origin ≠ .host → r.group = none

/-- While homing is ARMED no POSITION record is ARMED or SUSPENDED (R37). -/
def HomingExclusive (s : State) : Prop :=
  s.time.homing = true → ∀ i r, s.table.recordAt i = some r → r.waitsIn .position = false

/-- The Attention Unit's two level causes are pending exactly while their conditions hold (R14, R21, R161). -/
structure LevelsReported (s : State) : Prop where
  done_pending : (s.attention.cause .donePending).pending = true ↔ s.table.doneList ≠ []
  table_low : (s.attention.cause .tableLow).pending = true ↔ s.table.freeCount < s.table.lowThreshold

/-! ### Quiesce -/

/-- The latch is clear only while the mirror is HIGH; every channel is SAFE while the part is quiesced; and while it is not,
no channel is SAFE and the suspended list is empty (R81, R83, R140). -/
structure QuiesceConsistent (s : State) : Prop where
  clear_high : s.quiesce.latch = false → s.quiesce.mirror = .high
  safe : s.quiesced = true → ∀ c : ChannelIx, (s.channels[c]).state = .safe
  released : s.quiesced = false → (∀ c : ChannelIx, (s.channels[c]).state ≠ .safe) ∧ s.table.suspended = []

/-- No MARK record is SUSPENDED (R46, R148). -/
def SuspendedAreFirings (s : State) : Prop :=
  ∀ i r, s.table.recordAt i = some r → r.phase.isSuspended = true → r.what.work ≠ .mark

/-- What the exit from the quiesced condition needs and every step keeps. -/
structure QuiesceInvariant (s : State) : Prop where
  collections : CollectionsExact s
  firings : SuspendedAreFirings s
  quiesce : QuiesceConsistent s

/-! ### Channels -/

/-- The line level that a channel's state gives (R65, R81); a SAFE channel with safe level KEEP holds either level. -/
def Channel.lineAgrees (c : Channel) : Prop :=
  match c.state with
  | .rest => c.line = c.rest
  | .asserted => c.line = c.active
  | .pulse _ _ _ => c.line = c.active
  | .burst _ _ .high _ _ _ _ => c.line = c.active
  | .burst _ _ .low _ _ _ _ => c.line = c.rest
  | .safe =>
    match c.safe with
    | .rest => c.line = c.rest
    | .active => c.line = c.active
    | .keep => True

/-- Every channel's line agrees with its state (R65). -/
def LinesAgree (s : State) : Prop := ∀ c : ChannelIx, (s.channels[c]).lineAgrees

/-! ### The link -/

/-- The link's queue: at most four entries; one reserved entry while the table is SWEEPING and none while it is NORMAL; and a
window that showed RDY carries the frame of the filled head entry (R171, R176, R182). -/
structure LinkConsistent (s : State) : Prop where
  capacity : s.link.queue.length ≤ 4
  reserved : (s.link.queue.filter (fun e => e.reply.isNone)).length = (if s.table.sweep = none then 0 else 1)
  window : ∀ w, s.link.window = .inProgress w → w.rdy = true → s.link.headFrame = some w.frame

/-! ### Ranges -/

/-- A burst's values are in range (R89). -/
def Burst.inRange (b : Burst) : Prop :=
  1 ≤ b.high ∧ b.high ≤ 255 ∧ 1 ≤ b.low ∧ b.low ≤ 255 ∧ 1 ≤ b.cycles ∧ b.cycles ≤ 4095

/-- A record's width or burst is in range (section 1.3). -/
def Work.inRange : Work → Prop
  | .onChannel _ (.pulse w) => 1 ≤ w ∧ w ≤ 65535
  | .onChannel _ (.burst b) => b.inRange
  | _ => True

/-- A repeat field in range for a domain (R10). -/
def Repeat.inRange (d : Domain) (x : Repeat) : Prop :=
  1 ≤ x.interval ∧ x.interval ≤ Config.horizon d ∧ ∀ n, x.remaining = some n → n ≤ 65535

/-- A template whose values lie in the ranges of section 1.3. -/
structure Template.InRange (w : Template) : Prop where
  work : w.work.inRange
  rep : ∀ x, w.rep = some x → x.inRange w.base.domain

/-- A record whose values lie in the ranges of section 1.3. -/
structure ActionRecord.InRange (r : ActionRecord) : Prop where
  what : r.what.InRange
  offset : ∀ n, r.phase = .parked n → 1 ≤ n ∧ n ≤ Config.horizon r.what.base.domain
  group : ∀ g, r.group = some g → 1 ≤ g ∧ g ≤ 15
  ordinal : ∀ b n, r.origin = .binding b n → n ≤ 65535
  counts : r.fired ≤ 65535 ∧ r.late ≤ 65535 ∧ r.conflict ≤ 65535 ∧ r.missed ≤ 65535

/-- A channel state whose in-flight items lie in the ranges of R64. A pulse has at most 65535 ticks to come, and one more while
the tick of the very instant at which it began is still to come (R73). -/
def ChanState.inRange (tickToCome : Bool) : ChanState → Prop
  | .pulse _ _ g => g ≤ if tickToCome then 65536 else 65535
  | .burst _ _ _ k n hi lo => k ≤ 255 ∧ 1 ≤ n ∧ n ≤ 4095 ∧ 1 ≤ hi ∧ hi ≤ 255 ∧ 1 ≤ lo ∧ lo ≤ 255
  | _ => True

/-- A channel in the ranges of R64 and R84. -/
structure Channel.InRange (tickToCome : Bool) (c : Channel) : Prop where
  state : c.state.inRange tickToCome
  conflicts : c.conflicts ≤ 65535
  merges : c.merges ≤ 65535
  preemptions : c.preemptions ≤ 65535

/-- A sense input in the ranges of R109. -/
structure SenseInput.InRange (x : SenseInput) : Prop where
  prescale : x.prescale = 1 ∨ x.prescale = 2 ∨ x.prescale = 4 ∨ x.prescale = 8
  counter : x.prescaleCount < x.prescale
  gap : x.minGap ≤ 65535
  tracker : ∀ e, x.gapTracker = some e → e ≤ 65535

/-- A binding in the ranges of R122 and R123; one without steps is not enabled (R127). -/
structure Binding.InRange (x : Binding) : Prop where
  steps : x.steps.length ≤ 4
  step : ∀ y ∈ x.steps, y.what.InRange ∧ 1 ≤ y.offset ∧ y.offset ≤ Config.horizon y.what.base.domain
  enabled : x.enabled = true → x.steps ≠ []
  ordinal : x.ordinal ≤ 65535
  live : x.live ≤ 128
  fails : x.fails ≤ 65535

/-- Every stored number lies in the range the spec gives it. -/
structure RangesKept (s : State) : Prop where
  records : ∀ i r, s.table.recordAt i = some r → r.InRange
  reserve : s.table.reserve ≤ 64
  lowThreshold : s.table.lowThreshold ≤ 127
  swept : ∀ n, s.table.sweep = some n → n ≤ 128
  divisor : 1 ≤ s.time.divisor ∧ s.time.divisor ≤ 4096
  grain : s.time.grainPhase ≤ s.time.divisor
  channels : ∀ c : ChannelIx, (s.channels[c]).InRange s.time.grainWhole
  senses : ∀ n : SenseIx, (s.senses[n]).InRange
  bindings : ∀ b : BindingIx, (s.bindings[b]).InRange
  causes : ∀ k : Fin 11, (s.attention.causes[k]).count ≤ 255

/-- Every ARMED TIME record lies 0 to 2^30 grains ahead of TB-T: at 0 only while its claim is still to be taken
(R18, R42). -/
def TimeDueAhead (s : State) : Prop :=
  ∀ i r due, s.table.recordAt i = some r → r.what.base = .time → r.phase = .armed due → (due - s.time.tbT).toNat ≤ 2 ^ 30

/-- The ranges of all stored numbers, the place of every ARMED TIME record, and the live counts' exactness, by which they stay
in range: every step keeps the three together (R18, R42, R124). -/
structure TimeDueInvariant (s : State) : Prop where
  ranges : RangesKept s
  ahead : TimeDueAhead s
  live : LiveCountsExact s

end Sys2Proof.Machine
end

