-- ==== Sys2Proof/WellFormed.lean ====
section
/-! DEFINITION. Well-formed commands: every number fits the field that carries it on the link, and every item is one that the
request's layout can spell (chapter 11). Whether the part then takes the request is judged by the request's own rules. -/

namespace Sys2Proof

/-- The number fits a field of the given bits. -/
def fitsBits (bits n : Nat) : Bool := n < 2 ^ bits

/-- A payload whose items, where it has them, satisfy `p`. -/
def Payload.wf {α : Type} (p : α → Bool) : Payload α → Bool
  | .fits a => p a
  | .unfit => true

/-- The burst values fit their bytes (Table 11-2, Table 11-3). -/
def BurstItems.wf (b : BurstItems) : Bool := fitsBits 8 b.high && fitsBits 8 b.low && fitsBits 16 b.cycles

/-- The repeat values fit their bytes (Table 11-2). -/
def RepeatItems.wf (r : RepeatItems) : Bool :=
  fitsBits 32 r.interval && (match r.run with
    | some (.counted n) => fitsBits 16 n
    | _ => true)

/-- A direction that bit 5 can spell: either one for POSITION; for TIME none, or REV (R185). -/
def directionWf (d : Domain) (dir : Option Dir) : Bool :=
  match d with
  | .time => dir != some .fwd
  | .position => dir.isSome

/-- A channel that four bits can spell: any for a channel kind; for MARK none, or one that is not 0 (R185). -/
def channelWf (k : Kind) (c : Option Nat) : Bool :=
  match k, c with
  | .mark, none => true
  | .mark, some n => 1 ≤ n && fitsBits 4 n
  | _, none => false
  | _, some n => fitsBits 4 n

/-- The items that ARM and a spawn step share and spell alike. -/
def RecordItems.commonWf (i : RecordItems) : Bool :=
  directionWf i.domain i.direction && channelWf i.kind i.channel && fitsBits 2 i.priority && (i.rep.map (·.wf)).getD true

/-- Width and burst as record bytes 13 to 16 can spell them (Table 11-2). -/
def armWorkWf (k : Kind) (width : Option Nat) (burst : Option BurstItems) : Bool :=
  match k with
  | .burst => width.isNone && (burst.map (·.wf)).getD false
  | _ =>
    (width.map (fun w => 1 ≤ w && fitsBits 16 w)).getD true
      && (burst.map (fun b => b.wf && b.cycles == 0 && !(b.high == 0 && b.low == 0))).getD true

/-- The items of an ARM (Table 11-2). -/
def ArmItems.wf (a : ArmItems) : Bool :=
  a.items.commonWf && armWorkWf a.items.kind a.items.width a.items.burst
    && (a.group.map (fun g => 1 ≤ g && fitsBits 4 g)).getD true

/-- Width and burst as a spawn-step image can spell them (Table 11-3). -/
def stepWorkWf (k : Kind) (width : Option Nat) (burst : Option BurstItems) : Bool :=
  match k with
  | .pulse => (width.map (fitsBits 16)).getD false && burst.isNone
  | .burst => width.isNone && (burst.map (·.wf)).getD false
  | _ => width.isNone && burst.isNone

/-- A spawn step (Table 11-3). -/
def StepItems.wf (x : StepItems) : Bool :=
  fitsBits 32 x.offset && x.items.commonWf && stepWorkWf x.items.kind x.items.width x.items.burst
    && (x.items.rep.map (fun r => r.run.isSome)).getD true

/-- The length of a spawn-step image (Table 11-3). -/
def StepItems.imageLength (x : StepItems) : Nat :=
  6 + (match x.items.kind with
    | .pulse => 2
    | .burst => 4
    | _ => 0)
  + (match x.items.rep with
    | none => 0
    | some r =>
      match r.run with
      | some (.counted _) => 6
      | _ => 4)

/-- The rest of an AMEND: where width and burst are both selected they share two bytes (R185, Table 11-2). -/
def AmendBody.wf (b : AmendBody) : Bool :=
  (b.width.map (fitsBits 16)).getD true && (b.burst.map (·.wf)).getD true
    && (match b.width, b.burst with
      | some w, some x => w == x.cycles
      | _, _ => true)
    && (b.priority.map (fitsBits 2)).getD true
    && (match b.rep with
      | some (.set r) => r.wf
      | _ => true)
    && (b.group.map (fitsBits 4)).getD true

/-- A list of steps that one BIND_WRITE frame can carry: at most four, in at most 34 bytes (R185). -/
def stepsWf (l : List StepItems) : Bool :=
  l.length ≤ 4 && l.all (·.wf) && (l.map (·.imageLength)).sum ≤ 34

/-- A well-formed command. -/
def Instr.wf : Instr → Bool
  | .settings _ p => p.wf (fun a => fitsBits 8 a.reserve && fitsBits 8 a.lowThreshold)
  | .setGrain _ p => p.wf (fitsBits 16)
  | .chanConfig _ p => p.wf (fun a => fitsBits 8 a.channel)
  | .chanRead _ p => p.wf (fitsBits 8)
  | .arm _ p => p.wf (·.wf)
  | .amend _ p => p.wf (fun a => a.body.wf (·.wf))
  | .goGroup _ p => p.wf (fitsBits 8)
  | .retireGroup _ p => p.wf (fitsBits 8)
  | .scan _ p => p.wf (fitsBits 8)
  | .senseConfig _ p => p.wf (fun a => fitsBits 8 a.input && fitsBits 8 a.prescale && fitsBits 16 a.gap)
  | .readStamp _ p => p.wf (fitsBits 8)
  | .bindWrite _ p => p.wf (fun a => fitsBits 8 a.binding && fitsBits 8 a.input && stepsWf a.steps)
  | .bindEnable _ p => p.wf (fitsBits 8)
  | .bindDisable _ p => p.wf (fun a => fitsBits 8 a.binding)
  | .bindRead _ p => p.wf (fitsBits 8)
  | .powerOn _ _ | .rstnLow | .rstnHigh _ | .grainTick | .fallingDue _ | .pulseEnd _ | .burstPhaseChange _
  | .encoderStep _ | .encoderFault | .enczRisingEdge | .senseEdge _ _ | .quiescenFallingEdge | .quiescenRisingEdge
  | .sweepEnd | .windowStart | .windowClose _ | .csnRiseAfterReset => true
  | .unknownRequest _ | .settingsRead _ _ | .startT _ _ | .stopT _ _ | .setT _ _ | .readT _ _ | .homeP _ _
  | .cancelHome _ _ | .setP _ _ | .readP _ _ | .retire _ _ | .peek _ _ | .nextDue _ _ | .tableClear _ _ | .quiesce _ _
  | .resume _ _ | .quiesceRead _ _ | .collect _ _ | .readAttention _ _ | .ackAttention _ _ | .setMask _ _ | .ident _ _
  | .softReset _ _ => true

end Sys2Proof
end

