-- ==== Sys2Proof/Certificates/Slice0/Obligations.lean ====
section
/-! DEFINITION. The statements for the provers. Each docstring names the rule of the spec that it formalises; where a statement
rests on a choice of the model, it names the log entry. -/

open Sys2Proof Sys2Proof.Machine

/-! ### The queue, resets and the whole part -/

/-- A step runs the command at the front of the queue, with the rest of the queue waiting (notes/assumptions/2.md). -/
def Obligations.StepTakesTheFrontCommand : Prop :=
  ∀ (s : State) (c : Instr) (rest : List Instr), s.pending = c :: rest → step s = exec c { s with pending := rest }

/-- The model's choice (notes/assumptions/2.md, notes/assumptions/4.md): on an empty queue the part takes a command that is
due by its own clocks and timebases, whichever a free value picks where several are; where none is due one REFCLK period
passes: the grain is one period older, and a burst has one period fewer left in its phase. While RSTn is low nothing
happens. (Section 2.1 gives the grain its length and section 4.5 the phases theirs.) -/
def Obligations.EmptyQueueRunsThePartsOwnClocks : Prop :=
  ∀ s : State, s.pending = [] →
    (s.rstn = .low → step s = .next s)
    ∧ (s.rstn = .high → (∃ c, s.comesDue c) →
        ∃ c, s.comesDue c ∧ step s = exec c { s with freeIx := s.freeIx + 1 })
    ∧ (s.rstn = .high → (∀ c, ¬ s.comesDue c) → ∃ t : State, step s = .next t
        ∧ t = { s with time := { s.time with grainPhase := s.time.grainPhase + 1 }, channels := t.channels }
        ∧ ∀ c : ChannelIx,
          (∀ q h p k n hi lo, (s.channels[c]).state = .burst q h p k n hi lo →
            t.channels[c] = { s.channels[c] with state := .burst q h p (k - 1) n hi lo })
          ∧ ((∀ q h p k n hi lo, (s.channels[c]).state ≠ .burst q h p k n hi lo) → t.channels[c] = s.channels[c]))

/-- The state right after reset holds the values of the reset tables (R23, R41, R85, R121, R138, R154, R168, R180), with the
input lines at the levels the model chose (notes/assumptions/1.md). -/
def Obligations.ResetHoldsTheTabledValues : Prop :=
  AtResetValues State.reset .low .low .low .high (fun _ => .low)
  ∧ (∀ i, (State.reset.table.slot i).gen = 0)
  ∧ State.reset.link = { queue := [], refusal := false, fault := false, window := .idle }
  ∧ State.reset.table.freeCount = 128 ∧ State.reset.rstn = .high ∧ State.reset.pending = []
  ∧ State.reset.quiesced = true ∧ State.reset.attention.attn = .low

/-- The state right after reset meets every invariant stated below. -/
def Obligations.ResetMeetsEveryInvariant : Prop :=
  CollectionsExact State.reset ∧ LiveCountsExact State.reset ∧ SweepConsistent State.reset ∧ GroupsConsistent State.reset
  ∧ HomingExclusive State.reset ∧ LevelsReported State.reset ∧ QuiesceInvariant State.reset ∧ LinesAgree State.reset
  ∧ LinkConsistent State.reset ∧ TimeDueInvariant State.reset

/-- POWER_ON with RSTn high, and RSTN_HIGH from RSTn low, leave every block at its reset values with the references taken
from the lines, and the link waiting where CSn is low (R23, R41, R180). RSTN_LOW, and POWER_ON with RSTn low, leave the link
empty and every OUT line and ATTN LOW; until RSTn rises or power comes on anew, every other command changes nothing (R41, R85,
R121, R141, R167, R180). The model's choice: RSTN_HIGH with RSTn already high changes nothing (notes/assumptions/9.md), and
RSTN_LOW puts the blocks at their reset values at once (notes/assumptions/14.md). -/
def Obligations.ResetsRestoreEveryBlock : Prop :=
  (∀ (s : State) (l : Lines),
     (∃ t : State, exec (.powerOn .high l) s = .next t ∧ AfterHardwareReset s t l)
     ∧ (s.rstn = .low → ∃ t : State, exec (.rstnHigh l) s = .next t ∧ AfterHardwareReset s t l)
     ∧ (s.rstn = .high → exec (.rstnHigh l) s = .next s))
  ∧ ((∀ s : State, ∃ t : State, exec .rstnLow s = .next t ∧ HeldInReset s t)
     ∧ (∀ (s : State) (l : Lines), ∃ t : State, exec (.powerOn .low l) s = .next t ∧ HeldInReset s t)
     ∧ (∀ (s : State) (c : Instr), s.rstn = .low → c ≠ .rstnLow → (∀ l, c ≠ .rstnHigh l) → (∀ v l, c ≠ .powerOn v l) →
         exec c s = .next s))

/-- SOFT_RESET (R23, R179): every block at its reset values with the references as the lines stood, each live or awaiting
slot one generation higher, and the queue holding only the SOFT_RESET's own OK. One whose payload is more than a pad byte is
refused BAD_FIELD and resets nothing (R185). The model's choice: the lines as they stood are their last samples and a window
ends (notes/assumptions/17.md), ENCZ is LOW or not as a free value says where an index edge had come
(notes/assumptions/20.md), and the surplus byte is judged so (notes/assumptions/16.md). -/
def Obligations.SoftResetRestoresEveryBlock : Prop :=
  ∀ (s : State) (tag : Byte), s.accepts →
    (∃ (t : State) (z : Level), exec (.softReset tag (.fits ())) s = .next t
      ∧ (s.time.encZ = .low → z = .low)
      ∧ AtResetValues t s.time.encA s.time.encB z s.quiesce.mirror (fun n => (s.senses[n]).lineRef)
      ∧ (∀ i, (t.table.slot i).gen =
          if s.table.recordAt i ≠ none ∨ (s.table.slot i).awaiting = true then (s.table.slot i).gen + 1
          else (s.table.slot i).gen)
      ∧ t.link = { queue := [{ tag := tag, reply := some { result := .ok, payload := [] } }], refusal := false,
                   fault := false, window := .idle }
      ∧ t.rstn = .high ∧ t.pending = s.pending ∧ t.freeIx = s.freeIx + 1)
    ∧ exec (.softReset tag .unfit) s = .next (s.answered tag .badField [])

/-! ### The command link -/

/-- Step 6 of R173 and R175: while the refusal latch is set or the queue is full, every request is discarded, the refusal
latch is set, and nothing else changes. -/
def Obligations.BlockedLinkDiscardsEveryRequest : Prop :=
  ∀ (s : State) (c : Instr) (tag : Byte), requestTag c = some tag → s.rstn = .high →
    (s.link.refusal = true ∨ 4 ≤ s.link.queue.length) →
    exec c s = .next { s with link := { s.link with refusal := true } }

/-- R88 and R177: a request answered with any result but OK carries no payload and leaves the whole part as it was, but for
its entry in the response queue. -/
def Obligations.RefusedRequestChangesNothing : Prop :=
  ∀ (s t : State) (c : Instr) (tag : Byte) (r : Result) (p : List Byte), requestTag c = some tag → s.accepts →
    exec c s = .next t →
    t.link.queue = s.link.queue ++ [{ tag := tag, reply := some { result := r, payload := p } }] → r ≠ .ok →
    t = s.answered tag r [] ∧ p = []

/-- R174 and R176: an accepted request takes one entry at the tail of the queue under its own tag, filled at once except for
an accepted TABLE_CLEAR; nothing else of the link changes. SOFT_RESET, which empties the queue, is apart. A request
command stands for its frame at steps 6 and 7 of R173 (notes/assumptions/10.md). -/
def Obligations.AcceptedRequestJoinsTheQueue : Prop :=
  ∀ (s : State) (c : Instr) (tag : Byte), requestTag c = some tag → s.accepts → c ≠ .softReset tag (.fits ()) →
    ∃ t e, exec c s = .next t ∧ t.link = { s.link with queue := s.link.queue ++ [e] } ∧ e.tag = tag
      ∧ (e.reply = none ↔ c = .tableClear tag (.fits ()) ∧ s.normal)
      ∧ t.pending = s.pending ∧ t.rstn = s.rstn ∧ t.freeIx = s.freeIx

/-- WINDOW_START (R169, R170, R171, R177, R182): the status byte is formed field by field, and MISO carries it, then the head
response frame where RDY is set with its result byte of R181, then 00h, each byte most significant bit first. While CSn has
not risen since RSTn rose, nothing begins; that nothing begins with a window already in progress is the model's choice
(notes/assumptions/9.md). -/
def Obligations.WindowStartFormsTheStatusByte : Prop :=
  let code : Result → Byte := fun r => match r with
    | .ok => 0x00
    | .full => 0x01
    | .stale => 0x02
    | .state => 0x03
    | .busy => 0x04
    | .badField => 0x05
    | .range => 0x06
    | .empty => 0x07
    | .unknown => 0x08
  ∀ s : State, s.rstn = .high →
    (s.link.window = .idle → s.link.queue.length ≤ 4 → ∃ w t,
      exec .windowStart s = .next t ∧ t = { s with link := { s.link with window := .inProgress w } }
      ∧ (w.rdy = true ↔ ∃ e r rest, s.link.queue = e :: rest ∧ e.reply = some r)
      ∧ w.fault = s.link.fault
      ∧ w.status.getLsbD 7 = s.sweeping
      ∧ w.status.toNat / 16 % 8 = (if s.sweeping = true ∧ w.rdy = true then s.link.queue.length + 3 else s.link.queue.length)
      ∧ w.status.getLsbD 3 = s.link.refusal
      ∧ w.status.getLsbD 2 = s.link.fault
      ∧ (w.status.getLsbD 1 = true ↔ s.attention.attn = .high)
      ∧ w.status.getLsbD 0 = s.quiesced
      ∧ (w.rdy = false → w.frame = [])
      ∧ (∀ e r rest, s.link.queue = e :: rest → e.reply = some r →
          w.frame = [BitVec.ofNat 8 (3 + r.payload.length), e.tag, code r.result] ++ r.payload
            ++ [crc8 (e.tag :: code r.result :: r.payload)])
      ∧ (∀ k, t.misoByte k = some ((w.status :: w.frame).getD k 0))
      ∧ ∀ k j, j < 8 → t.misoBit (8 * k + j) = some (((w.status :: w.frame).getD k 0).getLsbD (7 - j)))
    ∧ (s.link.window ≠ .idle → exec .windowStart s = .next s)

/-- WINDOW_CLOSE follows the steps of R173: the head response is consumed where the window showed RDY and clocked every byte
of it, the fault latch clears where the window showed FAULT, and then the byte count, L, and the frame's checks decide. A
good frame is taken as the request that it spells (R174). R180: a rise of CSn, low since RSTn rose, ends the link's wait and
is no window close. The model's choice: the window showed FAULT where its whole status byte was clocked
(notes/assumptions/13.md); and CSN_RISE_AFTER_RESET without the wait, or WINDOW_CLOSE without a window, changes nothing
(notes/assumptions/9.md). -/
def Obligations.WindowCloseFollowsTheSteps : Prop :=
  (∀ (s : State) (w : Window) (mosi : List Bool), s.rstn = .high → s.link.window = .inProgress w →
     let bytes := bytesOfBits mosi
     let closed : State := { s with link :=
       { queue := if w.rdy = true ∧ w.frame.length + 1 ≤ bytes.length then s.link.queue.tail else s.link.queue
         refusal := s.link.refusal
         fault := if w.fault = true ∧ 1 ≤ bytes.length then false else s.link.fault
         window := .idle } }
     (bytes = [] → exec (.windowClose mosi) s = .next closed)
     ∧ (∀ rest, bytes = 0 :: rest →
         exec (.windowClose mosi) s = .next { closed with link := { closed.link with refusal := false } })
     ∧ (∀ len rest, bytes = len :: rest → len ≠ 0 →
         (¬ ∃ tag code payload, 4 ≤ len.toNat ∧ len.toNat ≤ 39 ∧ rest.length = len.toNat
             ∧ rest = tag :: code :: payload ++ [crc8 (tag :: code :: payload)]) →
         exec (.windowClose mosi) s = .next { closed with
           link := { closed.link with fault := true }, attention := closed.attention.raise .linkFault })
     ∧ (∀ len tag code payload, bytes = len :: tag :: code :: payload ++ [crc8 (tag :: code :: payload)] →
         len.toNat = payload.length + 3 → 1 ≤ payload.length → payload.length ≤ 36 →
         exec (.windowClose mosi) s = exec (decodeRequest code tag payload) closed))
  ∧ (∀ (s : State) (mosi : List Bool), s.rstn = .high →
       (s.link.window = .awaitRise →
         exec .csnRiseAfterReset s = .next { s with link := { s.link with window := .idle } }
         ∧ exec (.windowClose mosi) s = .next { s with link := { s.link with window := .idle } })
       ∧ (s.link.window ≠ .awaitRise → exec .csnRiseAfterReset s = .next s)
       ∧ (s.link.window = .idle → exec (.windowClose mosi) s = .next s))

/-- R169 and R172: each byte is clocked most significant bit first and bits after the last whole byte are discarded; the CRC-8
is the remainder that a register started at 00h, shifted once for each bit with the taps of x^8 + x^2 + x + 1, holds after
every bit of the bytes in the order sent. -/
def Obligations.BytesAndCrcAreBitSerial : Prop :=
  let msbFirst : Byte → List Bool := fun b => (List.range 8).map (fun k => b.getLsbD (7 - k))
  (∀ (bytes : List Byte) (extra : List Bool), extra.length < 8 → bytesOfBits (bytes.flatMap msbFirst ++ extra) = bytes)
  ∧ (∀ bytes : List Byte, crc8 bytes =
      (bytes.flatMap msbFirst).foldl (fun (r : Byte) b => if (r.msb != b) = true then (r <<< 1) ^^^ 0x07 else r <<< 1) 0)

/-- R181: a code names a request exactly when its lower half is 1 to the count of its chapter's requests, and then the request
of that chapter and place, under the frame's tag; UNKNOWN_REQUEST is answered UNKNOWN, whatever its payload, reaching no block
(R174). -/
def Obligations.UnknownCodesAreAnsweredUnknown : Prop :=
  (∀ (code tag : Byte) (payload : List Byte),
    let requests : Nat := match code.toNat / 16 with
      | 1 => 2 | 2 => 9 | 4 => 2 | 5 => 9 | 6 => 2 | 7 => 4 | 8 => 3 | 9 => 4 | 10 => 2 | _ => 0
    let named := 1 ≤ code.toNat % 16 ∧ code.toNat % 16 ≤ requests
    (decodeRequest code tag payload = .unknownRequest tag ↔ ¬ named)
    ∧ (named → requestPlace (decodeRequest code tag payload) = some (code.toNat / 16, code.toNat % 16)
        ∧ requestTag (decodeRequest code tag payload) = some tag))
  ∧ (∀ (s : State) (tag : Byte), s.accepts → exec (.unknownRequest tag) s = .next (s.answered tag .unknown []))

/-- R178: IDENT is answered OK with three bytes: the vendor code 44h, the part code D8h and the revision 01h; it changes
nothing, and is taken in every state of the part. -/
def Obligations.IdentAnswersThreeBytes : Prop :=
  ∀ (s : State) (tag : Byte), s.accepts →
    exec (.ident tag (.fits ())) s = .next (s.answered tag .ok [0x44, 0xD8, 0x01])

/-- Decoding is the inverse of encoding: every well-formed request that a frame can spell is read back as itself, with every
operand, from its code and payload, and its payload fits a frame (R172, R181, R183, R185). An ARM without a due value is
spelled with bit 7 of record byte 1, the model's choice (notes/assumptions/7.md). Every request's payload is read by its layout
in Table 11-1, an ARM's and an AMEND's items from the record bytes of Table 11-2 that hold them, and a payload of another length
does not fit (R185). Whether a set bit that Table 11-1 leaves out is a fault is open (notes/assumptions/6.md). -/
def Obligations.RequestsDecodeAsEncoded : Prop :=
  (∀ (i : Instr) (code tag : Byte) (payload : List Byte), i.wf = true → encodeRequest i = some (code, tag, payload) →
     decodeRequest code tag payload = i ∧ 1 ≤ payload.length ∧ payload.length ≤ 36)
  ∧ (∀ (tag : Byte) (payload : List Byte), PayloadsRead tag payload)

/-- What BIND_READ shows, BIND_WRITE takes back: the step images of any list of at most four steps in range are read back as
items that make those same steps (R123, R130, R185, Table 11-3). -/
def Obligations.StepImagesReadBackAsWritten : Prop :=
  ∀ steps : List SpawnStep, steps.length ≤ 4 →
    (∀ y ∈ steps, y.what.InRange ∧ 1 ≤ y.offset ∧ y.offset ≤ Config.horizon y.what.base.domain) →
    ∃ items, takeSteps 4 (steps.flatMap stepImage) = some items ∧ checkSteps items = some steps
      ∧ ∀ tag b n, decodeRequest 0x71 tag (b :: n :: steps.flatMap stepImage) =
          .bindWrite tag (.fits { binding := b.toNat, input := n.toNat, steps := items })

/-! ### Timebases -/

/-- GRAIN_TICK (R24, R26, R73, R112): the divisor's REFCLK periods that the present grain still lacks pass (`restOfGrain`,
notes/assumptions/2.md), none where the grain is whole, and the happenings of earlier ticks are taken (`settleTick`,
notes/assumptions/3.md). Then the next grain begins, TB-T advances by one while RUNNING, every pulse in flight is one grain
nearer its end, and every elapsed gap takes one more up to 65535; nothing else changes. Where the grain is whole and no TIME
claim and no pulse end is outstanding, the tick acts on the state as it stands. -/
def Obligations.GrainTickAdvancesAndCounts : Prop :=
  ∀ s : State, s.rstn = .high →
    let w := s.restOfGrain
    let u := w.settleTick
    (∃ t : State, exec .grainTick s = .next t
      ∧ t = { u with time := t.time, channels := t.channels, senses := t.senses }
      ∧ t.time = { u.time with grainPhase := 0, tbT := if u.time.running = true then u.time.tbT + 1 else u.time.tbT }
      ∧ (∀ c : ChannelIx,
          (∀ q h g, (u.channels[c]).state = .pulse q h g →
            t.channels[c] = { u.channels[c] with state := .pulse q h (g - 1) })
          ∧ ((∀ q h g, (u.channels[c]).state ≠ .pulse q h g) → t.channels[c] = u.channels[c]))
      ∧ (∀ n : SenseIx, t.senses[n] =
          { u.senses[n] with gapTracker := (u.senses[n]).gapTracker.map (fun e => min 65535 (e + 1)) }))
    ∧ w = State.passPeriod^[s.time.divisor - s.time.grainPhase] s
    ∧ (s.time.grainPhase ≤ s.time.divisor →
        w.time = { s.time with grainPhase := s.time.divisor } ∧ u.time = w.time)
    ∧ ((∀ i r due, w.table.recordAt i = some r → r.phase = .armed due → r.what.base = .time → due ≠ w.time.tbT) →
        (∀ (c : ChannelIx) q h, (w.channels[c]).state ≠ .pulse q h 0) → u = w)

/-- What is outstanding is taken: before an advance every TIME claim and pulse end that has come about, before a step every
POSITION claim, before a REFCLK period all of them, each once and by the effect of its own command, in an order that a free
value picks, and nothing else is done but to count the picks. R42, R43, R44, R78, R79: once the outstanding happenings have been taken before an advance, no ARMED TIME record stands at
TB-T and no pulse stands at its end; before a step, no ARMED POSITION record stands at TB-P in the direction of the last step;
and before a REFCLK period passes, nothing at all is due but the end of the grain. No timebase moves meanwhile, whatever order
the free value picks (notes/assumptions/3.md, notes/assumptions/4.md). -/
def Obligations.SettlingLeavesNothingDue : Prop :=
  (∀ (s : State) (x : Happening), s.rstn = .high → exec x.command s = .next (s.takeHappening x))
  ∧ (∀ s : State,
    let takes (due : Happening → Prop) (t : State) : Prop := ∃ l : List Happening, l.Nodup ∧ (∀ x, x ∈ l ↔ due x)
      ∧ t = l.foldl State.takeHappening (s.setFreeIx (s.freeIx + l.length))
    takes (fun x => s.claimComesDue .time x ∨ ∃ c, x = .pulseEnd c ∧ s.comesDue x.command) s.settleTick
    ∧ takes (s.claimComesDue .position) s.settleStep
    ∧ takes (fun x => s.comesDue x.command) s.settleAll)
  ∧ ∀ s : State, RangesKept s →
    ((∀ i r due, s.settleTick.table.recordAt i = some r → r.phase = .armed due → r.what.base = .time → due ≠ s.time.tbT)
      ∧ (∀ (c : ChannelIx) q h, (s.settleTick.channels[c]).state ≠ .pulse q h 0)
      ∧ s.settleTick.time = s.time)
    ∧ ((∀ i r d due, s.settleStep.table.recordAt i = some r → r.phase = .armed due → r.what.base = .position d →
          s.time.lastDir = some d → due ≠ s.time.tbP)
      ∧ s.settleStep.time = s.time)
    ∧ ((∀ c, c ≠ .grainTick → ¬ s.settleAll.comesDue c) ∧ s.settleAll.time = s.time
      ∧ s.passPeriod = s.settleAll.refclkPeriod
      ∧ ((∀ c, c ≠ .grainTick → ¬ s.comesDue c) → s.settleAll = s))

/-- ENCODER_STEP (R32, R33): a FWD step adds one to TB-P and a REV step takes one away, modulo 2^32; the last step direction
is the step's, and the reference pair moves by R32's table; nothing else changes. Claims of an earlier step have been taken
first (`settleStep`, notes/assumptions/3.md). -/
def Obligations.EncoderStepMovesTbP : Prop :=
  ∀ (s : State) (d : Dir), s.rstn = .high →
    let u := s.settleStep
    (∃ a b, exec (.encoderStep d) s = .next { u with time := { u.time with
        tbP := if d = .fwd then u.time.tbP + 1 else u.time.tbP - 1, lastDir := some d, encA := a, encB := b } }
      ∧ ((u.time.encA, u.time.encB) = (.low, .low) → (a, b) = if d = .fwd then (.high, .low) else (.low, .high))
      ∧ ((u.time.encA, u.time.encB) = (.high, .low) → (a, b) = if d = .fwd then (.high, .high) else (.low, .low))
      ∧ ((u.time.encA, u.time.encB) = (.high, .high) → (a, b) = if d = .fwd then (.low, .high) else (.high, .low))
      ∧ ((u.time.encA, u.time.encB) = (.low, .high) → (a, b) = if d = .fwd then (.low, .low) else (.high, .high)))
    ∧ ((∀ i r e due, s.table.recordAt i = some r → r.phase = .armed due → r.what.base = .position e →
          s.time.lastDir = some e → due ≠ s.time.tbP) → u = s)

/-- ENCODER_FAULT (R34): both reference levels change, ENC_FAULT is raised, and nothing else changes: neither TB-P, nor the
last step direction, nor any record. ENCZ_RISING_EDGE (R36): while homing is ARMED, TB-P takes the home value, homing disarms
and HOMED is raised; while it is NOT_ARMED the edge only becomes the reference. Nothing else changes, and no record falls due
at it. That the edge is taken whatever the ENCZ reference shows is the model's choice (notes/assumptions/9.md). -/
def Obligations.EncoderFaultsAndIndexEdges : Prop :=
  (∀ s : State, s.rstn = .high →
     exec .encoderFault s = .next { s with
       time := { s.time with encA := s.time.encA.flip, encB := s.time.encB.flip }
       attention := s.attention.raise .encFault })
  ∧ (∀ s : State, s.rstn = .high →
       (s.time.homing = true → exec .enczRisingEdge s = .next { s with
         time := { s.time with encZ := .high, tbP := s.time.homeValue, homing := false }
         attention := s.attention.raise .homed })
       ∧ (s.time.homing = false → exec .enczRisingEdge s = .next { s with time := { s.time with encZ := .high } }))

/-- START_T, STOP_T and CANCEL_HOME (R27, R28, R38): each sets its one item, also where it already stands so, is answered OK
without payload and changes nothing else; with more payload than a pad byte it is refused BAD_FIELD (R185), at a place that is
the model's choice (notes/assumptions/16.md). SET_T, SET_P and
HOME_P (R29, R35, R39): refused BAD_FIELD without the value, refused STATE while a record waits in the domain (and SET_P
also while homing is ARMED), and otherwise the value is taken at acceptance and nothing else changes. -/
def Obligations.TimebaseItemsAreSet : Prop :=
  (∀ (s : State) (tag : Byte), s.accepts →
     exec (.startT tag (.fits ())) s = .next ({ s with time := { s.time with running := true } }.answered tag .ok [])
     ∧ exec (.stopT tag (.fits ())) s = .next ({ s with time := { s.time with running := false } }.answered tag .ok [])
     ∧ exec (.cancelHome tag (.fits ())) s = .next ({ s with time := { s.time with homing := false } }.answered tag .ok [])
     ∧ exec (.startT tag .unfit) s = .next (s.answered tag .badField [])
     ∧ exec (.stopT tag .unfit) s = .next (s.answered tag .badField [])
     ∧ exec (.cancelHome tag .unfit) s = .next (s.answered tag .badField []))
  ∧ (∀ (s : State) (tag : Byte) (v : Word), s.accepts →
       (exec (.setT tag .unfit) s = .next (s.answered tag .badField [])
         ∧ (s.hasWaiting .time → exec (.setT tag (.fits v)) s = .next (s.answered tag .state []))
         ∧ (¬ s.hasWaiting .time →
             exec (.setT tag (.fits v)) s = .next ({ s with time := { s.time with tbT := v } }.answered tag .ok [])))
       ∧ (exec (.setP tag .unfit) s = .next (s.answered tag .badField [])
         ∧ (s.hasWaiting .position ∨ s.time.homing = true →
             exec (.setP tag (.fits v)) s = .next (s.answered tag .state []))
         ∧ (¬ s.hasWaiting .position → s.time.homing = false →
             exec (.setP tag (.fits v)) s = .next ({ s with time := { s.time with tbP := v } }.answered tag .ok [])))
       ∧ (exec (.homeP tag .unfit) s = .next (s.answered tag .badField [])
         ∧ (s.hasWaiting .position → exec (.homeP tag (.fits v)) s = .next (s.answered tag .state []))
         ∧ (¬ s.hasWaiting .position → exec (.homeP tag (.fits v)) s =
             .next ({ s with time := { s.time with homing := true, homeValue := v } }.answered tag .ok []))))

/-- SET_GRAIN's checks in their order, and the divisor replaced with the grain begun anew (R25). -/
def Obligations.SetGrainChecksInOrder : Prop :=
  ∀ (s : State) (tag : Byte) (n : Nat), s.accepts →
    let busy := (∃ (c : ChannelIx) (q : Fin 4) (h : Handle) (g : Nat), (s.channels[c]).state = .pulse q h g)
      ∨ s.hasWaiting .time
    exec (.setGrain tag .unfit) s = .next (s.answered tag .badField [])
    ∧ (n = 0 ∨ 4096 < n → exec (.setGrain tag (.fits n)) s = .next (s.answered tag .badField []))
    ∧ (1 ≤ n → n ≤ 4096 →
        (s.time.running = true → exec (.setGrain tag (.fits n)) s = .next (s.answered tag .state []))
        ∧ (s.time.running = false → busy → exec (.setGrain tag (.fits n)) s = .next (s.answered tag .busy []))
        ∧ (s.time.running = false → ¬ busy → exec (.setGrain tag (.fits n)) s =
            .next ({ s with time := { s.time with divisor := n, grainPhase := 0 } }.answered tag .ok [])))

/-- READ_T and READ_P (R30, R40, R183): answered OK with the values as they stand, changing nothing. -/
def Obligations.TimebaseReadsChangeNothing : Prop :=
  ∀ (s : State) (tag : Byte), s.accepts →
    let flag (b : Bool) : List Byte := if b = true then [1] else [0]
    exec (.readT tag (.fits ())) s = .next (s.answered tag .ok (wordBytes s.time.tbT ++ flag s.time.running
      ++ [BitVec.ofNat 8 (s.time.divisor / 256), BitVec.ofNat 8 (s.time.divisor % 256)]))
    ∧ exec (.readP tag (.fits ())) s = .next (s.answered tag .ok (wordBytes s.time.tbP ++ flag s.time.homing
      ++ wordBytes s.time.homeValue ++ (match s.time.lastDir with
        | none => [0]
        | some .fwd => [1]
        | some .rev => [2])))

/-! ### Falling due -/

/-- FALLING_DUE of a channel (R44, R49, R61, R71): the claim takes exactly the due records of the domain that name the
channel, one after another in the channel's tie order, and the level conditions are reported once the claim is whole. That a
claim without a due record takes nothing is the model's choice (notes/assumptions/9.md). -/
def Obligations.ChannelClaimTakesTieOrder : Prop :=
  ∀ (s : State) (d : Domain) (c : ChannelIx) (l : List SlotIx), s.rstn = .high → (∀ i, i ∈ l ↔ s.dueOn d c i) →
    l.Pairwise s.firesBefore →
    exec (.fallingDue (.channel d c)) s = .next (l.foldl State.fallDueAt s).reportLevels

/-- FALLING_DUE of a MARK record (R46, R162): quiesced or not, MARK is raised with the record's handle, FIRED is recorded, and
the record proceeds. The model's choice: a claim of a slot whose record is not a due MARK takes nothing
(notes/assumptions/9.md). -/
def Obligations.MarkClaimRaisesMark : Prop :=
  ∀ (s : State) (i : SlotIx), s.rstn = .high →
    (∀ r due, s.table.recordAt i = some r → r.phase = .armed due → r.what.work = .mark →
      s.time.reached r.what.base due →
      exec (.fallingDue (.mark i)) s = .next
        (({ s with attention := { s.attention.raise .mark with
              lastMark := some { slot := i, gen := (s.table.slot i).gen } } }.proceed i
            { r with fired := min 65535 (r.fired + 1), last := .fired } due).reportLevels))
    ∧ ((∀ r due, s.table.recordAt i = some r → r.phase = .armed due → r.what.work = .mark →
        ¬ s.time.reached r.what.base due) →
      exec (.fallingDue (.mark i)) s = .next s.reportLevels)

/-- The branches of a channel record's falling due (R48, R51, R52, R53): a firing whose verdict is recorded while the part
is not quiesced; while it is, MISSED for DROP, and for HOLD a place at the tail of the suspended list with nothing else of
the record changed. A pulse's width counts from this instant, without a tick of this instant (`counting`, R73). -/
def Obligations.FallingDueTakesItsBranch : Prop :=
  ∀ (s : State) (i : SlotIx) (r : ActionRecord) (due : Word) (c : ChannelIx) (a : ChanAction),
    s.table.recordAt i = some r → r.phase = .armed due → r.what.work = .onChannel c a →
    let x := (s.channels[c]).take
      { action := s.counting a, priority := r.what.priority, handle := { slot := i, gen := (s.table.slot i).gen } }
    let sent : State := { s with channels := s.channels.set c x.1 c.isLt }
    (s.quiesced = false →
      (x.2 = .fired → s.fallDueAt i =
        sent.proceed i { r with fired := min 65535 (r.fired + 1), last := .fired } due)
      ∧ (x.2 = .merged → s.fallDueAt i =
        sent.proceed i { r with fired := min 65535 (r.fired + 1), last := .merged } due)
      ∧ (x.2 = .conflict → s.fallDueAt i =
        { sent with attention := s.attention.raise .conflict }.proceed i
          { r with conflict := min 65535 (r.conflict + 1), last := .conflict } due))
    ∧ (s.quiesced = true → r.what.miss = .drop → s.fallDueAt i =
        { s with attention := s.attention.raise .missed }.proceed i
          { r with missed := min 65535 (r.missed + 1), last := .missed } due)
    ∧ (s.quiesced = true → r.what.miss = .hold → s.fallDueAt i = { s with table :=
        { s.table.write i { r with phase := .suspended due } with suspended := s.table.suspended ++ [i] } })

/-- R55, R56, R57: a record with repetition left is ARMED one interval on, in its own direction, with one firing consumed
unless it is endless; one without completes with end reason COMPLETED. The end of a record's work (R5, R58, R59, R94): with
keep it is DONE at the tail of the done list with its due value and end reason; without keep its slot is FREE at the next
generation, it stands in no list, and its binding's live count falls. No other slot, no setting and no other block changes.
-/
def Obligations.RecordRepeatsOrEnds : Prop :=
  (∀ (s : State) (i : SlotIx) (r : ActionRecord) (due : Word),
     (r.what.rep = none → s.proceed i r due = s.finish i r .completed)
     ∧ (∀ x, r.what.rep = some x →
         let next : Word := if r.what.base = .position .rev then due - BitVec.ofNat 32 x.interval
           else due + BitVec.ofNat 32 x.interval
         let again (left : Option Nat) : State := { s with table :=
           { s.table.write i { r with what := { r.what with rep := some { x with remaining := left } }, phase := .armed next }
             with suspended := s.table.suspended.erase i } }
         (x.remaining = some 0 → s.proceed i r due = s.finish i r .completed)
         ∧ (∀ n, x.remaining = some (n + 1) → s.proceed i r due = again (some n))
         ∧ (x.remaining = none → s.proceed i r due = again none)))
  ∧ (∀ (s : State) (i : SlotIx) (r : ActionRecord) (reason : EndReason),
       (r.what.keep = true → KeptDone s (s.finish i r reason) i r reason)
       ∧ (r.what.keep = false → Freed s (s.finish i r reason) i r))

/-! ### Output channels -/

/-- R72, R73, R74: a steady channel applies every firing and answers FIRED; no counter and no configuration item changes.
R75, R76, R77: a firing that meets an action in flight of priority `q` is merged, where both are PULSE on a MERGE channel;
else it pre-empts with a higher priority, taking the steady state of the line and then applied there; else it is refused and
leaves only the conflict counter. A tick of the instant of a firing is not counted by the pulse that it begins or extends,
whichever the channel takes first: at a whole grain the two orders give one state and one verdict (R73, R75, R80). -/
def Obligations.ChannelTakesEveryFiring : Prop :=
  (∀ (c : Channel) (f : Firing), (c.state = .rest ∨ c.state = .asserted) →
     (f.action = .assert → c.take f = ({ c with state := .asserted, line := c.rest.flip }, .fired))
     ∧ (f.action = .release → c.take f = ({ c with state := .rest, line := c.rest }, .fired))
     ∧ (f.action = .toggle → c.state = .rest → c.take f = ({ c with state := .asserted, line := c.rest.flip }, .fired))
     ∧ (f.action = .toggle → c.state = .asserted → c.take f = ({ c with state := .rest, line := c.rest }, .fired))
     ∧ (∀ w, f.action = .pulse w →
         c.take f = ({ c with state := .pulse f.priority f.handle w, line := c.rest.flip }, .fired))
     ∧ (∀ b, f.action = .burst b → c.take f =
         ({ c with state := .burst f.priority f.handle .high b.high b.cycles b.high b.low, line := c.rest.flip }, .fired)))
  ∧ (∀ (c : Channel) (f : Firing) (q : Fin 4),
       ((∃ h g, c.state = .pulse q h g) ∨ (∃ h p k n hi lo, c.state = .burst q h p k n hi lo)) →
       let merges := c.policy = .merge ∧ (∃ h g, c.state = .pulse q h g) ∧ ∃ w, f.action = .pulse w
       (∀ h g w, c.policy = .merge → c.state = .pulse q h g → f.action = .pulse w → c.take f =
         ({ c with state := .pulse (if q < f.priority then f.priority else q) h (if g < w then w else g),
                   merges := min 65535 (c.merges + 1) }, .merged))
       ∧ (¬ merges → q < f.priority → c.take f =
           ({ c with state := if c.line = c.rest.flip then .asserted else .rest,
                     preemptions := min 65535 (c.preemptions + 1) }).take f
           ∧ (c.take f).2 = .fired)
       ∧ (¬ merges → f.priority ≤ q → c.take f = ({ c with conflicts := min 65535 (c.conflicts + 1) }, .conflict)))
  ∧ (∀ (s : State) (c : ChannelIx) (f : Firing), 1 ≤ s.time.divisor → s.time.divisor ≤ s.time.grainPhase →
       (s.fire c f).1.tickAll = (s.tickAll.fire c f).1 ∧ (s.fire c f).2 = (s.tickAll.fire c f).2)

/-- PULSE_END (R78): a pulse whose end tick has been reached ends in REST at the rest level, whatever became of its record;
no counter and nothing else of the part changes. BURST_PHASE_CHANGE (R79): a phase whose REFCLK periods have run out
changes: HIGH runs into LOW with l periods left; LOW runs into HIGH with one cycle fewer while more than one remains, and
ends the burst in REST after the last, where the line, which agrees with its state, does not move. No counter and nothing
else of the part changes. The model's choice (notes/assumptions/9.md): PULSE_END before the end tick or without a pulse, and
BURST_PHASE_CHANGE with periods left or without a burst, change nothing; so a phase change that a pre-empting firing came
before does not happen (R80). -/
def Obligations.ActionsInFlightEnd : Prop :=
  (∀ (s : State) (c : ChannelIx), s.rstn = .high →
     (∀ q h, (s.channels[c]).state = .pulse q h 0 → exec (.pulseEnd c) s = .next { s with
       channels := s.channels.set c { s.channels[c] with state := .rest, line := (s.channels[c]).rest } c.isLt })
     ∧ ((∀ q h, (s.channels[c]).state ≠ .pulse q h 0) → exec (.pulseEnd c) s = .next s))
  ∧ (∀ (s : State) (c : ChannelIx), s.rstn = .high →
       let x := s.channels[c]
       (∀ q h n hi lo, x.state = .burst q h .high 0 n hi lo → exec (.burstPhaseChange c) s = .next { s with
         channels := s.channels.set c { x with state := .burst q h .low lo n hi lo, line := x.rest } c.isLt })
       ∧ (∀ q h n hi lo, x.state = .burst q h .low 0 n hi lo → 1 < n → exec (.burstPhaseChange c) s = .next { s with
           channels := s.channels.set c { x with state := .burst q h .high hi (n - 1) hi lo, line := x.rest.flip } c.isLt })
       ∧ (∀ q h hi lo, x.state = .burst q h .low 0 1 hi lo → x.lineAgrees → exec (.burstPhaseChange c) s = .next { s with
           channels := s.channels.set c { x with state := .rest } c.isLt })
       ∧ ((∀ q h p n hi lo, x.state ≠ .burst q h p 0 n hi lo) → exec (.burstPhaseChange c) s = .next s))

/-- CHAN_CONFIG's checks in their order, and the three items replaced with the line driven again by the state (R67).
CHAN_READ (R69, R183, R184): the state, the configuration with the line level, what is in flight or its absence, and the
three counters, changing nothing. The model's choice: at the instant of a tick, a pulse at its end tick, still in flight, shows
one grain, and one of the greatest width begun ahead of the tick 65535 (notes/assumptions/8.md); and the bits that
Table 11-1 leaves out of the configuration byte are 0 (notes/assumptions/21.md). -/
def Obligations.ChanConfigAndChanRead : Prop :=
  (∀ (s : State) (tag : Byte) (a : ChanConfigItems), s.accepts →
     exec (.chanConfig tag .unfit) s = .next (s.answered tag .badField [])
     ∧ (15 < a.channel → exec (.chanConfig tag (.fits a)) s = .next (s.answered tag .badField []))
     ∧ (∀ c : ChannelIx, a.channel = c.val →
         let x := s.channels[c]
         let flying := (∃ q h g, x.state = .pulse q h g) ∨ (∃ q h p k n hi lo, x.state = .burst q h p k n hi lo)
         (flying ∨ s.locked c → exec (.chanConfig tag (.fits a)) s = .next (s.answered tag .busy []))
         ∧ (¬ flying → ¬ s.locked c → exec (.chanConfig tag (.fits a)) s = .next ({ s with
             channels := s.channels.set c { x with
               rest := a.rest, safe := a.safe, policy := a.policy
               line := match x.state, a.safe with
                 | .asserted, _ => a.rest.flip
                 | .safe, .active => a.rest.flip
                 | .safe, .keep => x.line
                 | _, _ => a.rest } c.isLt }.answered tag .ok []))))
  ∧ (∀ (s : State) (tag : Byte) (n : Nat), s.accepts →
       exec (.chanRead tag .unfit) s = .next (s.answered tag .badField [])
       ∧ (15 < n → exec (.chanRead tag (.fits n)) s = .next (s.answered tag .badField []))
       ∧ (∀ c : ChannelIx, n = c.val →
           let x := s.channels[c]
           let two (k : Nat) : List Byte := [BitVec.ofNat 8 (k / 256), BitVec.ofNat 8 k]
           let high (l : Level) : Nat := if l = .high then 1 else 0
           let config : Byte := BitVec.ofNat 8 (high x.rest
             + 2 * (if x.safe = .active then 1 else if x.safe = .keep then 2 else 0)
             + 8 * (if x.policy = .merge then 1 else 0) + 128 * high x.line)
           let counters := two x.conflicts ++ two x.merges ++ two x.preemptions
           let steady (code : Byte) : List Byte := [code, config, 0, 0xFF, 0xFF, 0, 0] ++ counters
           exec (.chanRead tag (.fits n)) s = .next (s.answered tag .ok (match x.state with
             | .rest => steady 0
             | .asserted => steady 1
             | .pulse q h g => [2, config, BitVec.ofNat 8 q.val, BitVec.ofNat 8 h.slot.val, h.gen]
                 ++ two (if g = 0 then 1 else min 65535 g) ++ counters
             | .burst q h _ _ k _ _ => [3, config, BitVec.ofNat 8 q.val, BitVec.ofNat 8 h.slot.val, h.gen] ++ two k
                 ++ counters
             | .safe => steady 4))))

/-! ### Table requests -/

/-- R89 and R123: the items of an ARM pass exactly where each is required, forbidden and in range as the table says, and the
record's template is then what they say; and so for a spawn step with its offset. -/
def Obligations.RecordItemsAreJudged : Prop :=
  (∀ a : ArmItems,
    (a.Meets → checkArm a ≠ none)
    ∧ ∀ x, checkArm a = some x → a.Meets ∧ a.items.Gives x.what ∧ x.start = a.start ∧ x.form = a.form
        ∧ a.value = some x.value ∧ x.group = a.group)
  ∧ (∀ a : StepItems,
    (a.items.Meets → 1 ≤ a.offset → a.offset ≤ Config.horizon a.items.domain → checkStep a ≠ none)
    ∧ ∀ x, checkStep a = some x → a.items.Meets ∧ a.items.Gives x.what ∧ x.offset = a.offset ∧ 1 ≤ a.offset
        ∧ a.offset ≤ Config.horizon a.items.domain)

/-- ARM (R89, R90, R91): the checks in their order, and then the lowest FREE slot takes the record with origin HOST, its due
value formed from now, its counts 0, and its handle, state and due value in the answer; TABLE_LOW is reported, and nothing
else changes. -/
def Obligations.ArmChecksThenTakesTheLowestSlot : Prop :=
  ∀ (s : State) (tag : Byte) (a : ArmItems), s.accepts →
    let answers (r : Result) : Prop := exec (.arm tag (.fits a)) s = .next (s.answered tag r [])
    exec (.arm tag .unfit) s = .next (s.answered tag .badField [])
    ∧ (¬ a.Meets → answers .badField)
    ∧ (∀ v, a.Meets → a.value = some v →
        let base : Base := match a.items.domain, a.items.direction with
          | .position, some d => .position d
          | _, _ => .time
        let beyond := a.start = .armed ∧ a.form = .absolute
          ∧ ¬ (1 ≤ s.ahead base v ∧ s.ahead base v ≤ Config.horizon a.items.domain)
        let homing := a.items.domain = .position ∧ s.time.homing = true
        (beyond → answers .range)
        ∧ (¬ beyond → homing → answers .state)
        ∧ (¬ beyond → ¬ homing → ¬ s.normal → answers .busy)
        ∧ (¬ beyond → ¬ homing → s.normal → (∀ i, s.table.recordAt i ≠ none) → answers .full)
        ∧ (¬ beyond → ¬ homing → s.normal → ∀ i, s.lowestFree i →
            let due : Word := match a.form, base with
              | .absolute, _ => v
              | .offset, .time => s.time.tbT + v
              | .offset, .position .fwd => s.time.tbP + v
              | .offset, .position .rev => s.time.tbP - v
            ∃ r : ActionRecord,
              exec (.arm tag (.fits a)) s = .next ({ s with table := s.table.write i r }.reportLevels.answered tag .ok
                ([BitVec.ofNat 8 i.val, (s.table.slot i).gen] ++ (if a.start = Start.armed then 2 :: wordBytes due
                  else [1, 0, 0, 0, 0])))
              ∧ a.items.Gives r.what ∧ r.origin = .host ∧ r.group = a.group
              ∧ r.phase = (if a.start = Start.armed then Phase.armed due else Phase.parked v.toNat)
              ∧ (r.fired = 0 ∧ r.late = 0 ∧ r.conflict = 0 ∧ r.missed = 0 ∧ r.last = .none)))

/-- R3 and R185: RETIRE, PEEK, COLLECT with a handle and AMEND check the handle first, in this order: a slot number above
127, the sweep, and a handle that names no record; and a payload too short or too long for a handle is refused BAD_FIELD.
That this last check comes first, also while SWEEPING, is the model's choice (notes/assumptions/16.md). -/
def Obligations.HandleChecksComeFirst : Prop :=
  ∀ (s : State) (tag : Byte) (h : HandleItems) (body : Payload AmendBody) (c : Instr), s.accepts →
    c ∈ [Instr.retire tag (.fits h), .peek tag (.fits h), .collect tag (.fits (some h)),
      .amend tag (.fits { handle := h, body := body })] →
    (127 < h.slot.toNat → exec c s = .next (s.answered tag .badField []))
    ∧ (h.slot.toNat ≤ 127 → ¬ s.normal → exec c s = .next (s.answered tag .busy []))
    ∧ (h.slot.toNat ≤ 127 → s.normal → (∀ i r, ¬ s.names h i r) → exec c s = .next (s.answered tag .stale []))
    ∧ (∀ u ∈ [Instr.retire tag .unfit, .peek tag .unfit, .collect tag .unfit, .amend tag .unfit],
        exec u s = .next (s.answered tag .badField []))

/-- AMEND (R92, R93): the checks in their order after the handle's, and then every item carried replaced at once in the
record, which leaves the suspended list where it becomes ARMED; its state and its due value or offset in the answer; nothing
else of the part changes. -/
def Obligations.AmendChecksThenReplaces : Prop :=
  ∀ (s : State) (tag : Byte) (h : HandleItems) (b : AmendBody) (i : SlotIx) (r : ActionRecord), s.accepts → s.normal →
    s.names h i r →
    let answers (body : Payload AmendBody) (x : Result) : Prop :=
      exec (.amend tag (.fits { handle := h, body := body })) s = .next (s.answered tag x [])
    let within := ∀ v, b.due = some (.absolute, v) →
      1 ≤ s.ahead r.what.base v ∧ s.ahead r.what.base v ≤ Config.horizon r.what.base.domain
    (∀ due why, r.phase = .done due why → ∀ body, answers body .state)
    ∧ ((∀ due why, r.phase ≠ .done due why) →
        answers .unfit .badField
        ∧ (¬ b.Meets r → answers (.fits b) .badField)
        ∧ (b.Meets r → b.group ≠ none → (∀ n, r.phase ≠ .parked n) → answers (.fits b) .state)
        ∧ (b.Meets r → (b.group = none ∨ ∃ n, r.phase = .parked n) → ¬ within → answers (.fits b) .range)
        ∧ (b.Meets r → (b.group = none ∨ ∃ n, r.phase = .parked n) → within → ∃ r', AmendedAs s r b r'
          ∧ exec (.amend tag (.fits { handle := h, body := .fits b })) s = .next ({ s with
              table := { s.table.write i r' with suspended := match r'.phase with
                | .suspended _ => s.table.suspended
                | _ => s.table.suspended.erase i } }.answered tag .ok (match r'.phase with
                | .parked n => 1 :: wordBytes (BitVec.ofNat 32 n)
                | .armed d => 2 :: wordBytes d
                | .suspended d => 3 :: wordBytes d
                | .done _ _ => []))))

/-- RETIRE (R94): refused STATE for a DONE record; otherwise the record is DONE with end reason RETIRED where it has keep,
and its slot FREE where it has not, the level conditions are reported, and the new state is answered. COLLECT (R155, R156,
R157): without a handle BUSY while SWEEPING, EMPTY where no record is DONE, and else the oldest DONE record; with a handle
STATE unless the record is DONE, and else that one wherever it stands. The record's image is answered as it stood, its slot
is freed, and the level conditions are reported. (Its bytes are those of
`PeekAndScanChangeNothing`.) -/
def Obligations.RetireAndCollectEndOneRecord : Prop :=
  (∀ (s : State) (tag : Byte) (h : HandleItems) (i : SlotIx) (r : ActionRecord), s.accepts → s.normal → s.names h i r →
     (∀ due why, r.phase = .done due why → exec (.retire tag (.fits h)) s = .next (s.answered tag .state []))
     ∧ ((∀ due why, r.phase ≠ .done due why) → ∃ t : State,
         exec (.retire tag (.fits h)) s = .next (t.reportLevels.answered tag .ok [if r.what.keep = true then 4 else 0])
         ∧ (r.what.keep = true → KeptDone s t i r .retired) ∧ (r.what.keep = false → Freed s t i r)))
  ∧ (∀ (s : State) (tag : Byte), s.accepts →
       let collected (p : Payload (Option HandleItems)) (i : SlotIx) (r : ActionRecord) : Prop := ∃ t : State, Freed s t i r
         ∧ exec (.collect tag p) s = .next (t.reportLevels.answered tag .ok
             (recordImage { slot := i, gen := (s.table.slot i).gen } r))
       (¬ s.normal → exec (.collect tag (.fits none)) s = .next (s.answered tag .busy []))
       ∧ (s.normal → s.table.doneList = [] → exec (.collect tag (.fits none)) s = .next (s.answered tag .empty []))
       ∧ (s.normal → ∀ i rest r, s.table.doneList = i :: rest → s.table.recordAt i = some r → collected (.fits none) i r)
       ∧ (s.normal → ∀ h i r, s.names h i r →
           ((∀ due why, r.phase ≠ .done due why) → exec (.collect tag (.fits (some h))) s = .next (s.answered tag .state []))
           ∧ (∀ due why, r.phase = .done due why → collected (.fits (some h)) i r)))

/-- GO_GROUP (R95, R96): the checks in their order, and then every PARKED record of the group is ARMED with its offset ahead
of now, the number armed is answered, and nothing else changes. RETIRE_GROUP (R97): the checks in their order, and then
every PARKED, ARMED and SUSPENDED record of the group is retired in ascending slot order with end reason GROUP_RETIRED, the
level conditions are reported once, and the number retired is answered, 0 included. -/
def Obligations.GroupRequestsTakeEveryMember : Prop :=
  (∀ (s : State) (tag : Byte) (g : Nat), s.accepts →
     let answers (r : Result) : Prop := exec (.goGroup tag (.fits g)) s = .next (s.answered tag r [])
     let member (i : SlotIx) : Bool := (s.table.recordAt i).any (fun r => r.phase.isParked && r.group == some g)
     let homing := s.time.homing = true
       ∧ ∃ i r, s.table.recordAt i = some r ∧ member i = true ∧ r.what.base.domain = .position
     exec (.goGroup tag .unfit) s = .next (s.answered tag .badField [])
     ∧ (g = 0 ∨ 15 < g → answers .badField)
     ∧ (1 ≤ g → g ≤ 15 →
         (¬ s.normal → answers .busy)
         ∧ (s.normal → (∀ i, member i = false) → answers .empty)
         ∧ (s.normal → (∃ i, member i = true) → homing → answers .state)
         ∧ (s.normal → (∃ i, member i = true) → ¬ homing → ∃ t : State,
             exec (.goGroup tag (.fits g)) s =
               .next (t.answered tag .ok [BitVec.ofNat 8 ((List.finRange 128).filter member).length])
             ∧ t = { s with table := { s.table with slots := t.table.slots } }
             ∧ (∀ i r n, s.table.recordAt i = some r → r.group = some g → r.phase = .parked n → t.table.slot i =
                 { s.table.slot i with content := some { r with phase := .armed (match r.what.base with
                   | .time => s.time.tbT + BitVec.ofNat 32 n
                   | .position .fwd => s.time.tbP + BitVec.ofNat 32 n
                   | .position .rev => s.time.tbP - BitVec.ofNat 32 n) } })
             ∧ (∀ i, member i = false → t.table.slot i = s.table.slot i))))
  ∧ (∀ (s : State) (tag : Byte) (g : Nat), s.accepts → CollectionsExact s → GroupsConsistent s →
       let answers (r : Result) : Prop := exec (.retireGroup tag (.fits g)) s = .next (s.answered tag r [])
       let member (i : SlotIx) : Bool := (s.table.recordAt i).any (fun r => !r.phase.isDone && r.group == some g)
       exec (.retireGroup tag .unfit) s = .next (s.answered tag .badField [])
       ∧ (g = 0 ∨ 15 < g → answers .badField)
       ∧ (1 ≤ g → g ≤ 15 →
           (¬ s.normal → answers .busy)
           ∧ (s.normal → ∃ t : State, RetiredTogether s t member .groupRetired ∧ t.bindings = s.bindings
             ∧ exec (.retireGroup tag (.fits g)) s =
                 .next (t.reportLevels.answered tag .ok [BitVec.ofNat 8 ((List.finRange 128).filter member).length]))))

/-- PEEK and SCAN (R98, R99): PEEK answers with the image of the record named, in every live state; SCAN with the handle and
state of the lowest live slot at or above the one given, or EMPTY; neither changes anything. The image of a record is
the 31 bytes that Table 11-2 lays out (R184). That the bits which the table leaves out of byte 19, the
binding's number for HOST among them, are 0 is the model's choice (notes/assumptions/21.md). -/
def Obligations.PeekAndScanChangeNothing : Prop :=
  (∀ (h : Handle) (r : ActionRecord), RecordLaid h r (recordImage h r))
  ∧ ∀ (s : State) (tag : Byte), s.accepts →
    (∀ h i r, s.normal → s.names h i r → exec (.peek tag (.fits h)) s =
      .next (s.answered tag .ok (recordImage { slot := i, gen := (s.table.slot i).gen } r)))
    ∧ exec (.scan tag .unfit) s = .next (s.answered tag .badField [])
    ∧ (∀ n, 127 < n → exec (.scan tag (.fits n)) s = .next (s.answered tag .badField []))
    ∧ (∀ n, n ≤ 127 →
        (¬ s.normal → exec (.scan tag (.fits n)) s = .next (s.answered tag .busy []))
        ∧ (s.normal → (∀ i : SlotIx, n ≤ i.val → s.table.recordAt i = none) →
            exec (.scan tag (.fits n)) s = .next (s.answered tag .empty []))
        ∧ (s.normal → ∀ (i : SlotIx) r, n ≤ i.val → s.table.recordAt i = some r →
            (∀ j : SlotIx, n ≤ j.val → j < i → s.table.recordAt j = none) →
            exec (.scan tag (.fits n)) s = .next (s.answered tag .ok [BitVec.ofNat 8 i.val, (s.table.slot i).gen,
              match r.phase with
              | .parked _ => 1
              | .armed _ => 2
              | .suspended _ => 3
              | .done _ _ => 4])))

/-- NEXT_DUE (R18, R100): BUSY while SWEEPING, EMPTY where no TIME record is ARMED, and otherwise the handle and due value
of the ARMED TIME record that no other precedes in grains ahead, priority and slot; it changes nothing. -/
def Obligations.NextDueReturnsTheHead : Prop :=
  ∀ (s : State) (tag : Byte), s.accepts →
    let armed (i : SlotIx) (r : ActionRecord) (due : Word) : Prop :=
      s.table.recordAt i = some r ∧ r.phase = .armed due ∧ r.what.base = .time
    (¬ s.normal → exec (.nextDue tag (.fits ())) s = .next (s.answered tag .busy []))
    ∧ (s.normal → (∀ i r due, ¬ armed i r due) → exec (.nextDue tag (.fits ())) s = .next (s.answered tag .empty []))
    ∧ (s.normal → ∀ i r due, armed i r due → (∀ j q e, armed j q e → s.dueNoLater i j) →
        exec (.nextDue tag (.fits ())) s =
          .next (s.answered tag .ok ([BitVec.ofNat 8 i.val, (s.table.slot i).gen] ++ wordBytes due)))

/-- TABLE_CLEAR (R22, R105, R139): refused BUSY while SWEEPING; otherwise every slot is FREE at its own generation, marked
where it was live, every list is empty, every live count 0, the two conditions are reported as ended, and the entry is left
reserved. No channel, timebase, input, setting, mask, count or other flag changes. SWEEP_END (R106, R176): every marked slot
takes its generation step, the marks clear, the table is NORMAL, and the reserved entry is filled in place with OK and the
count kept at acceptance; every other entry and the rest of the part stay. The model's
choice: SWEEP_END in a NORMAL table changes nothing (notes/assumptions/9.md), and a surplus byte is refused BAD_FIELD
(notes/assumptions/5.md). -/
def Obligations.TableClearAndSweepEnd : Prop :=
  (∀ (s : State) (tag : Byte), s.accepts →
     (¬ s.normal → exec (.tableClear tag (.fits ())) s = .next (s.answered tag .busy []))
     ∧ (s.normal → exec (.tableClear tag .unfit) s = .next (s.answered tag .badField []))
     ∧ (s.normal → s.table.lowThreshold ≤ 127 → ∃ t : State, exec (.tableClear tag (.fits ())) s = .next t
         ∧ t = { s with
           table := { s.table with slots := t.table.slots, suspended := [], doneList := [],
                                   sweep := some (128 - s.table.freeCount) }
           bindings := t.bindings
           attention := { s.attention with causes := t.attention.causes }
           link := { s.link with queue := s.link.queue ++ [{ tag := tag, reply := none }] } }
         ∧ (∀ i, t.table.slot i = { gen := (s.table.slot i).gen, content := none,
                                    awaiting := (s.table.recordAt i).isSome })
         ∧ (∀ b : BindingIx, t.bindings[b] = { s.bindings[b] with live := 0 })
         ∧ (∀ c, t.attention.cause c = if c = .donePending ∨ c = .tableLow
             then { s.attention.cause c with pending := false } else s.attention.cause c)))
  ∧ (∀ s : State, s.rstn = .high →
       (s.normal → exec .sweepEnd s = .next s)
       ∧ (∀ n, s.table.sweep = some n → ∃ t : State, exec .sweepEnd s = .next t
           ∧ t = { s with
             table := { s.table with slots := t.table.slots, sweep := none }
             link := { s.link with queue := s.link.queue.map (fun e => match e.reply with
               | some _ => e
               | none => { tag := e.tag, reply := some { result := .ok, payload := [BitVec.ofNat 8 n] } }) } }
           ∧ ∀ i, t.table.slot i = { s.table.slot i with
               gen := if (s.table.slot i).awaiting = true then (s.table.slot i).gen + 1 else (s.table.slot i).gen
               awaiting := false }))

/-- R15: SETTINGS is checked for the sweep first and then for its values; an accepted one replaces both settings at once, is
answered OK with no further payload, takes and frees no slot, and reports TABLE_LOW where it changes; one whose values equal
the present settings changes nothing. The reserve so set governs the next spawn's pool check. -/
def Obligations.SettingsReplaceBothAtOnce : Prop :=
  ∀ (s : State) (tag : Byte) (reserve low : Nat), s.accepts →
    let c := Instr.settings tag (.fits { reserve := reserve, lowThreshold := low })
    (¬ s.normal → exec c s = .next (s.answered tag .busy []) ∧ exec (.settings tag .unfit) s = .next (s.answered tag .busy []))
    ∧ (s.normal → exec (.settings tag .unfit) s = .next (s.answered tag .badField []))
    ∧ (s.normal → 64 < reserve ∨ 127 < low → exec c s = .next (s.answered tag .badField []))
    ∧ (s.normal → reserve ≤ 64 → low ≤ 127 → LevelsReported s → ∃ a : Attention,
        exec c s = .next ({ s with
          table := { s.table with reserve := reserve, lowThreshold := low }, attention := a }.answered tag .ok [])
        ∧ a.lastMark = s.attention.lastMark
        ∧ (∀ k, k ≠ .tableLow → a.cause k = s.attention.cause k)
        ∧ (a.cause .tableLow).masked = (s.attention.cause .tableLow).masked
        ∧ ((a.cause .tableLow).pending = true ↔ s.table.freeCount < low)
        ∧ (a.cause .tableLow).count =
            (if s.table.freeCount < low ∧ ¬ s.table.freeCount < s.table.lowThreshold
              then min 255 ((s.attention.cause .tableLow).count + 1) else (s.attention.cause .tableLow).count)
        ∧ (∀ (t : State) (x : Binding), t.table = { s.table with reserve := reserve, lowThreshold := low } →
            (t.spawnFailure x = some .pool → s.table.freeCount < reserve + x.steps.length)
            ∧ (t.spawnFailure x = none → reserve + x.steps.length ≤ s.table.freeCount)))
    ∧ (s.normal → s.table.reserve ≤ 64 → s.table.lowThreshold ≤ 127 → LevelsReported s →
        exec (.settings tag (.fits { reserve := s.table.reserve, lowThreshold := s.table.lowThreshold })) s =
          .next (s.answered tag .ok []))

/-- SETTINGS_READ (R1, R16): BUSY while SWEEPING; otherwise the two settings and the six numbers, changing nothing, and the
six always sum to 128. The model's choice:
a surplus byte in a NORMAL table is refused BAD_FIELD (notes/assumptions/5.md). -/
def Obligations.SettingsReadCountsEverySlot : Prop :=
  ∀ (s : State) (tag : Byte), s.accepts →
    let number (p : ActionRecord → Bool) : Nat := ((List.finRange 128).filter (fun i => (s.table.recordAt i).any p)).length
    let free := ((List.finRange 128).filter (fun i => (s.table.recordAt i).isNone)).length
    let timeOrder := number (fun r => r.phase.isArmed && r.what.base == .time)
    let positions := number (fun r => r.phase.isArmed && r.what.base != .time)
    (¬ s.normal → exec (.settingsRead tag (.fits ())) s = .next (s.answered tag .busy []))
    ∧ (s.normal → exec (.settingsRead tag .unfit) s = .next (s.answered tag .badField []))
    ∧ (s.normal → CollectionsExact s →
        exec (.settingsRead tag (.fits ())) s = .next (s.answered tag .ok
          (([s.table.reserve, s.table.lowThreshold, free, number (·.phase.isParked), timeOrder, positions,
            s.table.suspended.length, s.table.doneList.length] : List Nat).map (BitVec.ofNat 8)))
        ∧ free + number (·.phase.isParked) + timeOrder + positions + s.table.suspended.length + s.table.doneList.length = 128)

/-! ### Sense inputs -/

/-- SENSE_EDGE stage by stage (R110, R111, R112, R114, R115, R116): an edge that the selection or the gap ignores moves only
the line reference; an accepted one restarts the gap and counts; a qualified one returns the counter to 0, writes the stamp
with now in both domains, raises STAMP_OVERRUN where an unread stamp is lost, and is handed to the bindings with the input's
number, the stamp's values and the polarity. -/
def Obligations.SenseEdgePassesItsStages : Prop :=
  ∀ (s : State) (n : SenseIx) (v : Level), s.rstn = .high →
    let x := s.senses[n]
    let examined := x.enable = true ∧ (x.edges = .both ∨ (x.edges = .rise ∧ v = .high) ∨ (x.edges = .fall ∧ v = .low))
    let within := ∃ e, x.gapTracker = some e ∧ e < x.minGap
    let put (y : SenseInput) : State := { s with senses := s.senses.set n y n.isLt }
    (v = x.lineRef → exec (.senseEdge n v) s = .next s)
    ∧ (v ≠ x.lineRef →
        (¬ examined → exec (.senseEdge n v) s = .next (put { x with lineRef := v }))
        ∧ (examined → within → exec (.senseEdge n v) s = .next (put { x with lineRef := v }))
        ∧ (examined → ¬ within → x.prescaleCount + 1 < x.prescale → exec (.senseEdge n v) s =
            .next (put { x with lineRef := v, gapTracker := some 0, prescaleCount := x.prescaleCount + 1 }))
        ∧ (examined → ¬ within → x.prescale ≤ x.prescaleCount + 1 → exec (.senseEdge n v) s =
            .next (({ put { x with
                lineRef := v, gapTracker := some 0, prescaleCount := 0, stampT := s.time.tbT, stampP := s.time.tbP
                polarity := some (if v = Level.high then Polarity.rise else Polarity.fall), unread := true
                overrun := x.overrun || x.unread }
              with attention := if x.unread = true then s.attention.raise .stampOverrun else s.attention }).spawn
                { input := n, stampT := s.time.tbT, stampP := s.time.tbP,
                  polarity := if v = Level.high then Polarity.rise else Polarity.fall })))

/-- SENSE_CONFIG (R117): BAD_FIELD for an input above 7, a prescale other than 1, 2, 4 or 8 or a gap above 65535; otherwise
the four items are replaced, the counter is 0 and the tracker NONE, and nothing else of the input or the part changes. R119:
READ_STAMP is refused BAD_FIELD for a number above 7 or absent, and is otherwise answered OK with the stamp image, its flags
as they stood; both flags are then cleared, and nothing else of the input or the part changes. That the bits which Table 11-4
leaves out of the stamp's last byte are 0 is the model's choice (notes/assumptions/21.md). -/
def Obligations.SenseConfigAndReadStamp : Prop :=
  (∀ (s : State) (tag : Byte) (a : SenseConfigItems), s.accepts →
     let good := (a.prescale = 1 ∨ a.prescale = 2 ∨ a.prescale = 4 ∨ a.prescale = 8) ∧ a.gap ≤ 65535
     exec (.senseConfig tag .unfit) s = .next (s.answered tag .badField [])
     ∧ (7 < a.input ∨ ¬ good → exec (.senseConfig tag (.fits a)) s = .next (s.answered tag .badField []))
     ∧ (∀ n : SenseIx, a.input = n.val → good → exec (.senseConfig tag (.fits a)) s = .next ({ s with
         senses := s.senses.set n { s.senses[n] with
           enable := a.enable, edges := a.edges, prescale := a.prescale, minGap := a.gap, prescaleCount := 0
           gapTracker := none } n.isLt }.answered tag .ok [])))
  ∧ (∀ (s : State) (tag : Byte) (k : Nat), s.accepts →
       exec (.readStamp tag .unfit) s = .next (s.answered tag .badField [])
       ∧ (7 < k → exec (.readStamp tag (.fits k)) s = .next (s.answered tag .badField []))
       ∧ (∀ n : SenseIx, k = n.val →
           let x := s.senses[n]
           exec (.readStamp tag (.fits k)) s = .next ({ s with
             senses := s.senses.set n { x with unread := false, overrun := false } n.isLt }.answered tag .ok
               ([BitVec.ofNat 8 n.val] ++ wordBytes x.stampT ++ wordBytes x.stampP
                 ++ ([(match x.polarity with
                     | none => 0
                     | some .rise => 1
                     | some .fall => 2)
                   + (if x.unread = true then 4 else 0) + (if x.overrun = true then 8 else 0)] : List Byte)))))

/-! ### Bindings and spawning -/

/-- The hand-off of a qualified edge (R116, R131): every binding that is enabled and names the input is taken once, in
ascending index, with the values handed over and whatever the polarity, and the conditions are reported once the claim is
whole. One binding's spawn (R12, R13, R132, R133, R134,
R137): it fails by the first cause that holds, leaving only the failure record and SPAWN_FAIL; or it takes all of its slots,
the lowest FREE ones in step order, each with its step's record timed from the stamp, and moves the ordinal and the live
count. Nothing else changes. -/
def Obligations.SpawnTakesAllOrNone : Prop :=
  (∀ (s : State) (h : HandOff) (l : List BindingIx),
     (∀ b : BindingIx, b ∈ l ↔ (s.bindings[b]).enabled = true ∧ (s.bindings[b]).input = h.input) → l.Pairwise (· < ·) →
     s.spawn h = (l.foldl (State.spawnOne h.stampT h.stampP) s).reportLevels)
  ∧ (∀ (s : State) (b : BindingIx) (stampT stampP : Word),
       let x := s.bindings[b]
       let result := s.spawnOne stampT stampP b
       let failing (why : FailCause) : State := { s with
         bindings := s.bindings.set b { x with fails := min 65535 (x.fails + 1), lastFail := some why } b.isLt
         attention := s.attention.raise .spawnFail }
       let stopped := (∃ y ∈ x.steps, y.what.base = .time) ∧ s.time.running = false
       let homing := (∃ y ∈ x.steps, y.what.base ≠ .time) ∧ s.time.homing = true
       (¬ s.normal → result = failing .sweep)
       ∧ (s.normal → stopped → result = failing .tbStopped)
       ∧ (s.normal → ¬ stopped → homing → result = failing .homing)
       ∧ (s.normal → ¬ stopped → ¬ homing → s.table.freeCount < s.table.reserve + x.steps.length → result = failing .pool)
       ∧ (s.normal → ¬ stopped → ¬ homing → s.table.reserve + x.steps.length ≤ s.table.freeCount →
           result = { s with
             table := { s.table with slots := result.table.slots }
             bindings := s.bindings.set b { x with
               ordinal := (x.ordinal + 1) % 65536, live := x.live + x.steps.length } b.isLt }
           ∧ ∃ taken : List SlotIx, taken.length = x.steps.length ∧ taken.Pairwise (· < ·)
             ∧ (∀ i ∈ taken, s.table.recordAt i = none)
             ∧ (∀ j, s.table.recordAt j = none → j ∉ taken → ∀ i ∈ taken, i < j)
             ∧ (∀ j, j ∉ taken → result.table.slot j = s.table.slot j)
             ∧ (∀ p ∈ taken.zip x.steps, ∃ r : ActionRecord,
              result.table.slot p.1 = { s.table.slot p.1 with content := some r }
              ∧ r.origin = .binding b x.ordinal ∧ r.what = p.2.what ∧ r.group = none
              ∧ r.phase = .armed (match p.2.what.base with
                  | .time => stampT + BitVec.ofNat 32 p.2.offset
                  | .position .fwd => stampP + BitVec.ofNat 32 p.2.offset
                  | .position .rev => stampP - BitVec.ofNat 32 p.2.offset)
              ∧ r.fired = 0 ∧ r.late = 0 ∧ r.conflict = 0 ∧ r.missed = 0 ∧ r.last = .none)))

/-- BIND_WRITE (R125): the checks in their order, and then the input and the whole step list replaced, the ordinal and the
failure record cleared; the enable, the live count and the rest of the part stay. BIND_ENABLE and BIND_READ (R127, R130): a
number above 15 or absent is BAD_FIELD; a binding without steps is not enabled but refused STATE, any other is enabled and
keeps the rest; BIND_READ shows the binding and changes nothing. Each of its
step images is laid out as Table 11-3 gives. -/
def Obligations.BindWriteEnableAndRead : Prop :=
  (∀ y : SpawnStep, StepLaid y (stepImage y))
  ∧ (∀ (s : State) (tag : Byte) (a : BindWriteItems), s.accepts →
     let answers (r : Result) : Prop := exec (.bindWrite tag (.fits a)) s = .next (s.answered tag r [])
     let good := a.input ≤ 7 ∧ 1 ≤ a.steps.length ∧ a.steps.length ≤ 4
       ∧ ∀ y ∈ a.steps, y.items.Meets ∧ 1 ≤ y.offset ∧ y.offset ≤ Config.horizon y.items.domain
     exec (.bindWrite tag .unfit) s = .next (s.answered tag .badField [])
     ∧ (15 < a.binding ∨ ¬ good → answers .badField)
     ∧ (∀ (b : BindingIx) (n : SenseIx), a.binding = b.val → a.input = n.val → good →
         let x := s.bindings[b]
         (x.enabled = true → answers .state)
         ∧ (x.enabled = false → 0 < x.live → answers .busy)
         ∧ (x.enabled = false → x.live = 0 → ∃ steps : List SpawnStep,
             exec (.bindWrite tag (.fits a)) s = .next ({ s with bindings := s.bindings.set b { x with
               input := n, steps := steps, ordinal := 0, fails := 0, lastFail := none } b.isLt }.answered tag .ok [])
             ∧ steps.length = a.steps.length
             ∧ ∀ p ∈ a.steps.zip steps, p.1.items.Gives p.2.what ∧ p.2.offset = p.1.offset)))
  ∧ (∀ (s : State) (tag : Byte) (n : Nat), s.accepts →
       (∀ c ∈ [Instr.bindEnable tag .unfit, .bindRead tag .unfit], exec c s = .next (s.answered tag .badField []))
       ∧ (15 < n → ∀ c ∈ [Instr.bindEnable tag (.fits n), .bindRead tag (.fits n)],
           exec c s = .next (s.answered tag .badField []))
       ∧ (∀ b : BindingIx, n = b.val →
           let x := s.bindings[b]
           let two (k : Nat) : List Byte := [BitVec.ofNat 8 (k / 256), BitVec.ofNat 8 k]
           (x.steps = [] → exec (.bindEnable tag (.fits n)) s = .next (s.answered tag .state []))
           ∧ (x.steps ≠ [] → exec (.bindEnable tag (.fits n)) s =
               .next ({ s with bindings := s.bindings.set b { x with enabled := true } b.isLt }.answered tag .ok []))
           ∧ exec (.bindRead tag (.fits n)) s = .next (s.answered tag .ok
               ([BitVec.ofNat 8 b.val, BitVec.ofNat 8 x.input.val, if x.enabled = true then 1 else 0] ++ two x.ordinal
                 ++ [BitVec.ofNat 8 x.live] ++ two x.fails
                 ++ [match x.lastFail with
                     | none => 0
                     | some .pool => 1
                     | some .tbStopped => 2
                     | some .homing => 3
                     | some .sweep => 4, BitVec.ofNat 8 x.steps.length] ++ x.steps.flatMap stepImage))))

/-- BIND_DISABLE (R128, R129): the binding is disabled; without the retire option the answer is 0 and nothing else changes;
with it every ARMED and SUSPENDED record of the binding is retired in ascending slot order with end reason BINDING_RETIRED,
also while SWEEPING, when there are none, and the number retired is answered. -/
def Obligations.BindDisableRetiresOnRequest : Prop :=
  ∀ (s : State) (tag : Byte) (a : BindDisableItems), s.accepts → CollectionsExact s →
    exec (.bindDisable tag .unfit) s = .next (s.answered tag .badField [])
    ∧ (15 < a.binding → exec (.bindDisable tag (.fits a)) s = .next (s.answered tag .badField []))
    ∧ (∀ b : BindingIx, a.binding = b.val →
        let off : State := { s with bindings := s.bindings.set b { s.bindings[b] with enabled := false } b.isLt }
        let member (i : SlotIx) : Bool := (s.table.recordAt i).any (fun r =>
          (r.phase.isArmed || r.phase.isSuspended) && (match r.origin with
            | .host => false
            | .binding x _ => x == b))
        (a.retire = false → exec (.bindDisable tag (.fits a)) s = .next (off.answered tag .ok [0]))
        ∧ (a.retire = true → ∃ t : State, RetiredTogether off t member .bindingRetired
          ∧ (∀ x : BindingIx, x ≠ b → t.bindings[x] = s.bindings[x])
          ∧ t.bindings[b] = { s.bindings[b] with enabled := false, live := (s.bindings[b]).live
              - ((List.finRange 128).filter (fun i => member i && (s.table.recordAt i).any (fun r => !r.what.keep))).length }
          ∧ exec (.bindDisable tag (.fits a)) s =
              .next (t.reportLevels.answered tag .ok [BitVec.ofNat 8 ((List.finRange 128).filter member).length])))

/-! ### Quiesce -/

/-- The entry to the quiesced condition (R81, R141, R142, R145): a falling edge of QUIESCEn sets the latch, takes the mirror
LOW and raises TRIP, and an accepted QUIESCE sets the latch; where the part was not quiesced every channel enters SAFE at
its safe level, and where it was no channel changes. A rising edge takes the mirror HIGH and ends nothing. R144:
QUIESCE_READ is answered OK with the latch, the mirror, the quiesced condition and the length of the suspended list, 0 while
SWEEPING, and changes nothing; it is taken in every state of the part. The model's
choice: QUIESCEN_FALLING_EDGE with the mirror LOW changes nothing (notes/assumptions/9.md), QUIESCE with a surplus byte is
refused BAD_FIELD (notes/assumptions/16.md), and the bits that Table 11-1 leaves out of QUIESCE_READ's first byte are 0
(notes/assumptions/21.md). -/
def Obligations.QuiesceEntryMakesChannelsSafe : Prop :=
  (∀ (s : State) (tag : Byte),
     let entered (t : State) : Prop := ∀ c : ChannelIx, t.channels[c] = if s.quiesced = true then s.channels[c]
       else { s.channels[c] with
         state := .safe
         line := match (s.channels[c]).safe with
           | .rest => (s.channels[c]).rest
           | .active => (s.channels[c]).rest.flip
           | .keep => (s.channels[c]).line }
     (s.rstn = .high → s.quiesce.mirror = .high → ∃ t : State, exec .quiescenFallingEdge s = .next t ∧ entered t
       ∧ t = { s with channels := t.channels, quiesce := { latch := true, mirror := .low },
                      attention := s.attention.raise .trip })
     ∧ (s.rstn = .high → s.quiesce.mirror = .low → exec .quiescenFallingEdge s = .next s)
     ∧ (s.rstn = .high → exec .quiescenRisingEdge s = .next { s with quiesce := { s.quiesce with mirror := .high } })
     ∧ (s.accepts → exec (.quiesce tag .unfit) s = .next (s.answered tag .badField [])
       ∧ ∃ t : State, exec (.quiesce tag (.fits ())) s = .next (t.answered tag .ok []) ∧ entered t
         ∧ t = { s with channels := t.channels, quiesce := { s.quiesce with latch := true } }))
  ∧ (∀ (s : State) (tag : Byte), s.accepts →
       exec (.quiesceRead tag (.fits ())) s = .next (s.answered tag .ok
         [(if s.quiesce.latch = true then 1 else 0) + (if s.quiesce.mirror = .high then 2 else 0)
           + (if s.quiesce.latch = true ∨ s.quiesce.mirror = .low then 4 else 0), BitVec.ofNat 8 s.table.suspended.length])
     ∧ (SweepConsistent s → ¬ s.normal → s.table.suspended.length = 0))

/-- RESUME (R83, R143, R147): STATE while the mirror is LOW; OK with 0 and no change where the latch is clear; otherwise the
latch clears, every channel takes the steady state of its line, which does not move, the suspended list is released from
head to tail, and the number it held is answered. The part is then not quiesced and the list is empty. The
model's choice: a surplus byte with the mirror HIGH is refused BAD_FIELD (notes/assumptions/5.md). -/
def Obligations.ResumeReleasesTheList : Prop :=
  ∀ (s : State) (tag : Byte), s.accepts → QuiesceInvariant s →
    (s.quiesce.mirror = .low → exec (.resume tag (.fits ())) s = .next (s.answered tag .state []))
    ∧ (s.quiesce.mirror = .high → exec (.resume tag .unfit) s = .next (s.answered tag .badField []))
    ∧ (s.quiesce.mirror = .high → s.quiesce.latch = false →
        exec (.resume tag (.fits ())) s = .next (s.answered tag .ok [0]))
    ∧ (s.quiesce.mirror = .high → s.quiesce.latch = true → ∃ left t : State,
        left = { s with quiesce := { s.quiesce with latch := false }, channels := left.channels }
        ∧ (∀ c : ChannelIx, left.channels[c] = { s.channels[c] with
            state := if (s.channels[c]).line = (s.channels[c]).rest then .rest else .asserted })
        ∧ t = (s.table.suspended.foldl State.releaseOne left).reportLevels
        ∧ exec (.resume tag (.fits ())) s =
            .next (t.answered tag .ok [BitVec.ofNat 8 s.table.suspended.length])
        ∧ t.quiesced = false ∧ t.table.suspended = [])

/-- The release of one suspended record (R148): its firing reaches the channel with the record's present values; FIRED and
MERGED are recorded as LATE, CONFLICT as CONFLICT, and the record then proceeds; a pulse's width counts from this instant,
without a tick of this instant (`counting`, R73). The catch-up of a released record (R150,
R151, R152): with no firing left it completes; else it is ARMED at the first value of its series that lies 1 to the horizon
ahead, the values before it skipped, each counted missed and raising MISSED once, and one firing consumed by each value;
where a counted repeat runs out first, it completes at its last value, all of them skipped. -/
def Obligations.ReleaseFiresLateAndCatchesUp : Prop :=
  (∀ (s : State) (i : SlotIx) (r : ActionRecord) (due : Word) (c : ChannelIx) (a : ChanAction),
     s.table.recordAt i = some r → r.phase = .suspended due → r.what.work = .onChannel c a →
     let x := (s.channels[c]).take
       { action := s.counting a, priority := r.what.priority, handle := { slot := i, gen := (s.table.slot i).gen } }
     let sent : State := { s with channels := s.channels.set c x.1 c.isLt }
     (x.2 ≠ .conflict → s.releaseOne i = sent.releaseProceed i
       { r with fired := min 65535 (r.fired + 1), late := min 65535 (r.late + 1), last := .late } due)
     ∧ (x.2 = .conflict → s.releaseOne i = { sent with attention := s.attention.raise .conflict }.releaseProceed i
       { r with conflict := min 65535 (r.conflict + 1), last := .conflict } due))
  ∧ (∀ (s : State) (i : SlotIx) (r : ActionRecord) (due : Word),
       (r.what.rep = none → s.releaseProceed i r due = s.finish i r .completed)
       ∧ (∀ x, r.what.rep = some x → x.inRange r.what.base.domain →
           let value (m : Nat) : Word := if r.what.base = .position .rev then due - BitVec.ofNat 32 (m * x.interval)
             else due + BitVec.ofNat 32 (m * x.interval)
           let lies (m : Nat) : Prop := 1 ≤ s.ahead r.what.base (value m)
             ∧ s.ahead r.what.base (value m) ≤ Config.horizon r.what.base.domain
           let skipping (k : Nat) : State := { s with attention := (fun a => a.raise .missed)^[k] s.attention }
           let caught (left : Option Nat) (k : Nat) : ActionRecord :=
             { r with what := { r.what with rep := some { x with remaining := left } }, missed := min 65535 (r.missed + k) }
           (x.remaining = some 0 → s.releaseProceed i r due = s.finish i r .completed)
           ∧ (∀ n m, x.remaining = some n → 1 ≤ m → m ≤ n → lies m → (∀ k, 1 ≤ k → k < m → ¬ lies k) →
               s.releaseProceed i r due = (skipping (m - 1)).armAt i (caught (some (n - m)) (m - 1)) (value m))
           ∧ (∀ n, x.remaining = some n → 1 ≤ n → (∀ k, 1 ≤ k → k ≤ n → ¬ lies k) →
               s.releaseProceed i r due =
                 (skipping n).finish i { caught (some 0) n with phase := .suspended (value n) } .completed)
           ∧ (∀ m, x.remaining = none → 1 ≤ m → lies m → (∀ k, 1 ≤ k → k < m → ¬ lies k) →
               s.releaseProceed i r due = (skipping (m - 1)).armAt i (caught none (m - 1)) (value m))
           ∧ (x.remaining = none → ∃ m, 1 ≤ m ∧ lies m)))

/-! ### Completion and attention -/

/-- The Attention Unit's causes (R159, R160, R161, R167): a raise sets the flag and adds one to a count that stops at 255,
masked or not; a report makes a level cause pending exactly while its condition holds and counts a rise only; no other cause
changes; ATTN is HIGH exactly when some unmasked cause is pending. -/
def Obligations.CausesFollowRaisesAndReports : Prop :=
  ∀ a : Attention,
    (∀ c d : Cause, (a.raise c).cause d = if c = d
      then { a.cause d with pending := true, count := min 255 ((a.cause d).count + 1) } else a.cause d)
    ∧ (∀ c n, (∀ k : Fin 11, a.causes[k].count ≤ 255) → a.raiseTimes c n = (fun x => x.raise c)^[n] a)
    ∧ (∀ (c d : Cause) (holds : Bool), (a.report c holds).cause d = if c = d
      then { a.cause d with
        pending := holds
        count := if holds = true ∧ (a.cause d).pending = false then min 255 ((a.cause d).count + 1)
          else (a.cause d).count }
      else a.cause d)
    ∧ (a.attn = .high ↔ ∃ c : Cause, (a.cause c).pending = true ∧ (a.cause c).masked = false)

/-- R163: READ_ATTENTION is answered OK with the attention image, for each of the eleven causes the pending flag, the count
and the mask bit, and the last-mark handle or FFh FFh; it changes nothing. ACK_ATTENTION (R164): without its set it is
refused BAD_FIELD; otherwise every count in the set becomes 0 and every event cause's flag clears, a level cause's flag
stays, and no other cause, no mask and nothing else of the part changes. R166: SET_MASK is refused BAD_FIELD without its
set, and otherwise masks the causes of the set and unmasks every other; no flag, count or last-mark handle changes, ATTN
follows the new mask, and a raise taken before or after it leaves the same. -/
def Obligations.AttentionRequestsActOnCauses : Prop :=
  (∀ (s : State) (tag : Byte), s.accepts → ∃ p : List Byte,
     exec (.readAttention tag (.fits ())) s = .next (s.answered tag .ok p) ∧ p.length = 17
     ∧ (∀ c : Cause,
         (p.getD 0 0 ++ p.getD 1 0).getLsbD c.ix.val = (s.attention.cause c).pending
         ∧ (p.getD 2 0 ++ p.getD 3 0).getLsbD c.ix.val = (s.attention.cause c).masked
         ∧ p.getD (4 + c.ix.val) 0 = BitVec.ofNat 8 (s.attention.cause c).count)
     ∧ (∀ k, 11 ≤ k → (p.getD 0 0 ++ p.getD 1 0).getLsbD k = false ∧ (p.getD 2 0 ++ p.getD 3 0).getLsbD k = false)
     ∧ p.drop 15 = (match s.attention.lastMark with
         | none => [0xFF, 0xFF]
         | some h => [BitVec.ofNat 8 h.slot.val, h.gen]))
  ∧ (∀ (s : State) (tag : Byte) (set : CauseSet), s.accepts →
       exec (.ackAttention tag .unfit) s = .next (s.answered tag .badField [])
       ∧ ∃ a : Attention, exec (.ackAttention tag (.fits set)) s = .next ({ s with attention := a }.answered tag .ok [])
         ∧ a.lastMark = s.attention.lastMark
         ∧ ∀ c : Cause, a.cause c = if set.getLsbD c.ix.val = true
             then { s.attention.cause c with
               count := 0
               pending := if c = .donePending ∨ c = .tableLow then (s.attention.cause c).pending else false }
             else s.attention.cause c)
  ∧ (∀ (s : State) (tag : Byte) (set : CauseSet), s.accepts →
       exec (.setMask tag .unfit) s = .next (s.answered tag .badField [])
       ∧ ∃ a : Attention, exec (.setMask tag (.fits set)) s = .next ({ s with attention := a }.answered tag .ok [])
         ∧ a.lastMark = s.attention.lastMark
         ∧ (∀ c : Cause, a.cause c = { s.attention.cause c with masked := set.getLsbD c.ix.val })
         ∧ (a.attn = .high ↔ ∃ c : Cause, (s.attention.cause c).pending = true ∧ set.getLsbD c.ix.val = false)
         ∧ (∀ (c : Cause) (first : State), first = { s with attention := s.attention.raise c } → exec (.setMask tag (.fits set)) first =
             .next ({ s with attention := a.raise c }.answered tag .ok [])))

/-! ### Invariants that every step keeps -/

/-- R17, R20, R21: the suspended list holds exactly the SUSPENDED records and the done list exactly the DONE records, each
record once, after every step. -/
def Obligations.CollectionsStayExact : Prop :=
  ∀ s t : State, CollectionsExact s → step s = .next t → CollectionsExact t

/-- R124: each binding's live count equals the number of slots whose record came from it, after every step. -/
def Obligations.LiveCountsStayExact : Prop :=
  ∀ s t : State, LiveCountsExact s → step s = .next t → LiveCountsExact t

/-- R4, R9, R22: while SWEEPING no record and no list entry is held, while NORMAL no slot is marked, a PARKED record is the
host's with a group and a spawned record has none, after every step. R37: while homing is ARMED no POSITION record is ARMED
or SUSPENDED, after every step. -/
def Obligations.GroupsAndHomingStayConsistent : Prop :=
  (∀ s t : State, step s = .next t →
     (SweepConsistent s → SweepConsistent t) ∧ (GroupsConsistent s → GroupsConsistent t))
  ∧ (∀ s t : State, HomingExclusive s → step s = .next t → HomingExclusive t)

/-- R14, R21, R161: DONE_PENDING is pending exactly while the done list is not empty and TABLE_LOW exactly while the free
count is below the low threshold, after every step. -/
def Obligations.LevelCausesStayReported : Prop :=
  ∀ s t : State, LevelsReported s → step s = .next t → LevelsReported t

/-- R81, R83, R140: while the part is quiesced every channel is SAFE, and while it is not no channel is SAFE and the
suspended list is empty; the latch is clear only while the mirror is HIGH; after every step. -/
def Obligations.QuiesceStaysConsistent : Prop :=
  ∀ s t : State, QuiesceInvariant s → step s = .next t → QuiesceInvariant t

/-- R65, R81: every channel's line is at the level its state gives, after every step. -/
def Obligations.LinesStayInAgreement : Prop :=
  ∀ s t : State, LinesAgree s → step s = .next t → LinesAgree t

/-- R176, R182: the queue holds at most four entries and one reserved entry exactly while SWEEPING, and a window that showed
RDY carries the filled head's frame, after every step. -/
def Obligations.LinkStaysConsistent : Prop :=
  ∀ s t : State, LinkConsistent s → step s = .next t → LinkConsistent t

/-- R18, R42, R124: every stored number of the eight blocks stays in its range, the live counts and the sweep's count
included, and every ARMED TIME record stands 0 to 2^30 grains ahead of TB-T, never behind it, after every step. -/
def Obligations.TimeRecordsStayAhead : Prop :=
  ∀ s t : State, TimeDueInvariant s → step s = .next t → TimeDueInvariant t

/-- R2: a slot's generation increases by one exactly where a live slot becomes FREE, and by no other command; resets,
TABLE_CLEAR and its sweep, and a window close that may carry one, are apart. -/
def Obligations.GenerationsMoveOnlyOnFreeing : Prop :=
  ∀ (s t : State) (c : Instr), exec c s = .next t →
    (∀ v l, c ≠ .powerOn v l) → c ≠ .rstnLow → (∀ l, c ≠ .rstnHigh l) → (∀ g p, c ≠ .softReset g p) →
    (∀ g p, c ≠ .tableClear g p) → c ≠ .sweepEnd → (∀ m, c ≠ .windowClose m) →
    ∀ i, (t.table.slot i).gen =
      if s.table.recordAt i ≠ none ∧ t.table.recordAt i = none then (s.table.slot i).gen + 1 else (s.table.slot i).gen
end

