-- ==== Sys2Proof/Laws/State.lean ====
section
/-! SUPPORT. One lemma for each field of the state and each update of one block: a proof about a field never unfolds a record
update. -/

namespace Sys2Proof.Machine

/-! ### setRstn -/

@[simp] theorem State.setRstn_pending (s : State) (x : Level) : (s.setRstn x).pending = s.pending := rfl
@[simp] theorem State.setRstn_rstn (s : State) (x : Level) : (s.setRstn x).rstn = x := rfl
@[simp] theorem State.setRstn_table (s : State) (x : Level) : (s.setRstn x).table = s.table := rfl
@[simp] theorem State.setRstn_time (s : State) (x : Level) : (s.setRstn x).time = s.time := rfl
@[simp] theorem State.setRstn_channels (s : State) (x : Level) : (s.setRstn x).channels = s.channels := rfl
@[simp] theorem State.setRstn_senses (s : State) (x : Level) : (s.setRstn x).senses = s.senses := rfl
@[simp] theorem State.setRstn_bindings (s : State) (x : Level) : (s.setRstn x).bindings = s.bindings := rfl
@[simp] theorem State.setRstn_quiesce (s : State) (x : Level) : (s.setRstn x).quiesce = s.quiesce := rfl
@[simp] theorem State.setRstn_attention (s : State) (x : Level) : (s.setRstn x).attention = s.attention := rfl
@[simp] theorem State.setRstn_link (s : State) (x : Level) : (s.setRstn x).link = s.link := rfl
@[simp] theorem State.setRstn_freeIx (s : State) (x : Level) : (s.setRstn x).freeIx = s.freeIx := rfl

/-! ### setTable -/

@[simp] theorem State.setTable_pending (s : State) (x : ActionTable) : (s.setTable x).pending = s.pending := rfl
@[simp] theorem State.setTable_rstn (s : State) (x : ActionTable) : (s.setTable x).rstn = s.rstn := rfl
@[simp] theorem State.setTable_table (s : State) (x : ActionTable) : (s.setTable x).table = x := rfl
@[simp] theorem State.setTable_time (s : State) (x : ActionTable) : (s.setTable x).time = s.time := rfl
@[simp] theorem State.setTable_channels (s : State) (x : ActionTable) : (s.setTable x).channels = s.channels := rfl
@[simp] theorem State.setTable_senses (s : State) (x : ActionTable) : (s.setTable x).senses = s.senses := rfl
@[simp] theorem State.setTable_bindings (s : State) (x : ActionTable) : (s.setTable x).bindings = s.bindings := rfl
@[simp] theorem State.setTable_quiesce (s : State) (x : ActionTable) : (s.setTable x).quiesce = s.quiesce := rfl
@[simp] theorem State.setTable_attention (s : State) (x : ActionTable) : (s.setTable x).attention = s.attention := rfl
@[simp] theorem State.setTable_link (s : State) (x : ActionTable) : (s.setTable x).link = s.link := rfl
@[simp] theorem State.setTable_freeIx (s : State) (x : ActionTable) : (s.setTable x).freeIx = s.freeIx := rfl

/-! ### setTime -/

@[simp] theorem State.setTime_pending (s : State) (x : Timebases) : (s.setTime x).pending = s.pending := rfl
@[simp] theorem State.setTime_rstn (s : State) (x : Timebases) : (s.setTime x).rstn = s.rstn := rfl
@[simp] theorem State.setTime_table (s : State) (x : Timebases) : (s.setTime x).table = s.table := rfl
@[simp] theorem State.setTime_time (s : State) (x : Timebases) : (s.setTime x).time = x := rfl
@[simp] theorem State.setTime_channels (s : State) (x : Timebases) : (s.setTime x).channels = s.channels := rfl
@[simp] theorem State.setTime_senses (s : State) (x : Timebases) : (s.setTime x).senses = s.senses := rfl
@[simp] theorem State.setTime_bindings (s : State) (x : Timebases) : (s.setTime x).bindings = s.bindings := rfl
@[simp] theorem State.setTime_quiesce (s : State) (x : Timebases) : (s.setTime x).quiesce = s.quiesce := rfl
@[simp] theorem State.setTime_attention (s : State) (x : Timebases) : (s.setTime x).attention = s.attention := rfl
@[simp] theorem State.setTime_link (s : State) (x : Timebases) : (s.setTime x).link = s.link := rfl
@[simp] theorem State.setTime_freeIx (s : State) (x : Timebases) : (s.setTime x).freeIx = s.freeIx := rfl

/-! ### setChannels -/

@[simp] theorem State.setChannels_pending (s : State) (x : Vector Channel 16) : (s.setChannels x).pending = s.pending := rfl
@[simp] theorem State.setChannels_rstn (s : State) (x : Vector Channel 16) : (s.setChannels x).rstn = s.rstn := rfl
@[simp] theorem State.setChannels_table (s : State) (x : Vector Channel 16) : (s.setChannels x).table = s.table := rfl
@[simp] theorem State.setChannels_time (s : State) (x : Vector Channel 16) : (s.setChannels x).time = s.time := rfl
@[simp] theorem State.setChannels_channels (s : State) (x : Vector Channel 16) : (s.setChannels x).channels = x := rfl
@[simp] theorem State.setChannels_senses (s : State) (x : Vector Channel 16) : (s.setChannels x).senses = s.senses := rfl
@[simp] theorem State.setChannels_bindings (s : State) (x : Vector Channel 16) : (s.setChannels x).bindings = s.bindings := rfl
@[simp] theorem State.setChannels_quiesce (s : State) (x : Vector Channel 16) : (s.setChannels x).quiesce = s.quiesce := rfl
@[simp] theorem State.setChannels_attention (s : State) (x : Vector Channel 16) : (s.setChannels x).attention = s.attention := rfl
@[simp] theorem State.setChannels_link (s : State) (x : Vector Channel 16) : (s.setChannels x).link = s.link := rfl
@[simp] theorem State.setChannels_freeIx (s : State) (x : Vector Channel 16) : (s.setChannels x).freeIx = s.freeIx := rfl

/-! ### setSenses -/

@[simp] theorem State.setSenses_pending (s : State) (x : Vector SenseInput 8) : (s.setSenses x).pending = s.pending := rfl
@[simp] theorem State.setSenses_rstn (s : State) (x : Vector SenseInput 8) : (s.setSenses x).rstn = s.rstn := rfl
@[simp] theorem State.setSenses_table (s : State) (x : Vector SenseInput 8) : (s.setSenses x).table = s.table := rfl
@[simp] theorem State.setSenses_time (s : State) (x : Vector SenseInput 8) : (s.setSenses x).time = s.time := rfl
@[simp] theorem State.setSenses_channels (s : State) (x : Vector SenseInput 8) : (s.setSenses x).channels = s.channels := rfl
@[simp] theorem State.setSenses_senses (s : State) (x : Vector SenseInput 8) : (s.setSenses x).senses = x := rfl
@[simp] theorem State.setSenses_bindings (s : State) (x : Vector SenseInput 8) : (s.setSenses x).bindings = s.bindings := rfl
@[simp] theorem State.setSenses_quiesce (s : State) (x : Vector SenseInput 8) : (s.setSenses x).quiesce = s.quiesce := rfl
@[simp] theorem State.setSenses_attention (s : State) (x : Vector SenseInput 8) : (s.setSenses x).attention = s.attention := rfl
@[simp] theorem State.setSenses_link (s : State) (x : Vector SenseInput 8) : (s.setSenses x).link = s.link := rfl
@[simp] theorem State.setSenses_freeIx (s : State) (x : Vector SenseInput 8) : (s.setSenses x).freeIx = s.freeIx := rfl

/-! ### setBindings -/

@[simp] theorem State.setBindings_pending (s : State) (x : Vector Binding 16) : (s.setBindings x).pending = s.pending := rfl
@[simp] theorem State.setBindings_rstn (s : State) (x : Vector Binding 16) : (s.setBindings x).rstn = s.rstn := rfl
@[simp] theorem State.setBindings_table (s : State) (x : Vector Binding 16) : (s.setBindings x).table = s.table := rfl
@[simp] theorem State.setBindings_time (s : State) (x : Vector Binding 16) : (s.setBindings x).time = s.time := rfl
@[simp] theorem State.setBindings_channels (s : State) (x : Vector Binding 16) : (s.setBindings x).channels = s.channels := rfl
@[simp] theorem State.setBindings_senses (s : State) (x : Vector Binding 16) : (s.setBindings x).senses = s.senses := rfl
@[simp] theorem State.setBindings_bindings (s : State) (x : Vector Binding 16) : (s.setBindings x).bindings = x := rfl
@[simp] theorem State.setBindings_quiesce (s : State) (x : Vector Binding 16) : (s.setBindings x).quiesce = s.quiesce := rfl
@[simp] theorem State.setBindings_attention (s : State) (x : Vector Binding 16) : (s.setBindings x).attention = s.attention := rfl
@[simp] theorem State.setBindings_link (s : State) (x : Vector Binding 16) : (s.setBindings x).link = s.link := rfl
@[simp] theorem State.setBindings_freeIx (s : State) (x : Vector Binding 16) : (s.setBindings x).freeIx = s.freeIx := rfl

/-! ### setQuiesce -/

@[simp] theorem State.setQuiesce_pending (s : State) (x : QuiesceControl) : (s.setQuiesce x).pending = s.pending := rfl
@[simp] theorem State.setQuiesce_rstn (s : State) (x : QuiesceControl) : (s.setQuiesce x).rstn = s.rstn := rfl
@[simp] theorem State.setQuiesce_table (s : State) (x : QuiesceControl) : (s.setQuiesce x).table = s.table := rfl
@[simp] theorem State.setQuiesce_time (s : State) (x : QuiesceControl) : (s.setQuiesce x).time = s.time := rfl
@[simp] theorem State.setQuiesce_channels (s : State) (x : QuiesceControl) : (s.setQuiesce x).channels = s.channels := rfl
@[simp] theorem State.setQuiesce_senses (s : State) (x : QuiesceControl) : (s.setQuiesce x).senses = s.senses := rfl
@[simp] theorem State.setQuiesce_bindings (s : State) (x : QuiesceControl) : (s.setQuiesce x).bindings = s.bindings := rfl
@[simp] theorem State.setQuiesce_quiesce (s : State) (x : QuiesceControl) : (s.setQuiesce x).quiesce = x := rfl
@[simp] theorem State.setQuiesce_attention (s : State) (x : QuiesceControl) : (s.setQuiesce x).attention = s.attention := rfl
@[simp] theorem State.setQuiesce_link (s : State) (x : QuiesceControl) : (s.setQuiesce x).link = s.link := rfl
@[simp] theorem State.setQuiesce_freeIx (s : State) (x : QuiesceControl) : (s.setQuiesce x).freeIx = s.freeIx := rfl

/-! ### setAttention -/

@[simp] theorem State.setAttention_pending (s : State) (x : Attention) : (s.setAttention x).pending = s.pending := rfl
@[simp] theorem State.setAttention_rstn (s : State) (x : Attention) : (s.setAttention x).rstn = s.rstn := rfl
@[simp] theorem State.setAttention_table (s : State) (x : Attention) : (s.setAttention x).table = s.table := rfl
@[simp] theorem State.setAttention_time (s : State) (x : Attention) : (s.setAttention x).time = s.time := rfl
@[simp] theorem State.setAttention_channels (s : State) (x : Attention) : (s.setAttention x).channels = s.channels := rfl
@[simp] theorem State.setAttention_senses (s : State) (x : Attention) : (s.setAttention x).senses = s.senses := rfl
@[simp] theorem State.setAttention_bindings (s : State) (x : Attention) : (s.setAttention x).bindings = s.bindings := rfl
@[simp] theorem State.setAttention_quiesce (s : State) (x : Attention) : (s.setAttention x).quiesce = s.quiesce := rfl
@[simp] theorem State.setAttention_attention (s : State) (x : Attention) : (s.setAttention x).attention = x := rfl
@[simp] theorem State.setAttention_link (s : State) (x : Attention) : (s.setAttention x).link = s.link := rfl
@[simp] theorem State.setAttention_freeIx (s : State) (x : Attention) : (s.setAttention x).freeIx = s.freeIx := rfl

/-! ### setLink -/

@[simp] theorem State.setLink_pending (s : State) (x : Link) : (s.setLink x).pending = s.pending := rfl
@[simp] theorem State.setLink_rstn (s : State) (x : Link) : (s.setLink x).rstn = s.rstn := rfl
@[simp] theorem State.setLink_table (s : State) (x : Link) : (s.setLink x).table = s.table := rfl
@[simp] theorem State.setLink_time (s : State) (x : Link) : (s.setLink x).time = s.time := rfl
@[simp] theorem State.setLink_channels (s : State) (x : Link) : (s.setLink x).channels = s.channels := rfl
@[simp] theorem State.setLink_senses (s : State) (x : Link) : (s.setLink x).senses = s.senses := rfl
@[simp] theorem State.setLink_bindings (s : State) (x : Link) : (s.setLink x).bindings = s.bindings := rfl
@[simp] theorem State.setLink_quiesce (s : State) (x : Link) : (s.setLink x).quiesce = s.quiesce := rfl
@[simp] theorem State.setLink_attention (s : State) (x : Link) : (s.setLink x).attention = s.attention := rfl
@[simp] theorem State.setLink_link (s : State) (x : Link) : (s.setLink x).link = x := rfl
@[simp] theorem State.setLink_freeIx (s : State) (x : Link) : (s.setLink x).freeIx = s.freeIx := rfl

/-! ### setFreeIx -/

@[simp] theorem State.setFreeIx_pending (s : State) (x : Nat) : (s.setFreeIx x).pending = s.pending := rfl
@[simp] theorem State.setFreeIx_rstn (s : State) (x : Nat) : (s.setFreeIx x).rstn = s.rstn := rfl
@[simp] theorem State.setFreeIx_table (s : State) (x : Nat) : (s.setFreeIx x).table = s.table := rfl
@[simp] theorem State.setFreeIx_time (s : State) (x : Nat) : (s.setFreeIx x).time = s.time := rfl
@[simp] theorem State.setFreeIx_channels (s : State) (x : Nat) : (s.setFreeIx x).channels = s.channels := rfl
@[simp] theorem State.setFreeIx_senses (s : State) (x : Nat) : (s.setFreeIx x).senses = s.senses := rfl
@[simp] theorem State.setFreeIx_bindings (s : State) (x : Nat) : (s.setFreeIx x).bindings = s.bindings := rfl
@[simp] theorem State.setFreeIx_quiesce (s : State) (x : Nat) : (s.setFreeIx x).quiesce = s.quiesce := rfl
@[simp] theorem State.setFreeIx_attention (s : State) (x : Nat) : (s.setFreeIx x).attention = s.attention := rfl
@[simp] theorem State.setFreeIx_link (s : State) (x : Nat) : (s.setFreeIx x).link = s.link := rfl
@[simp] theorem State.setFreeIx_freeIx (s : State) (x : Nat) : (s.setFreeIx x).freeIx = x := rfl

/-! ### raise -/

@[simp] theorem State.raise_pending (s : State) (c : Cause) : (s.raise c).pending = s.pending := rfl
@[simp] theorem State.raise_rstn (s : State) (c : Cause) : (s.raise c).rstn = s.rstn := rfl
@[simp] theorem State.raise_table (s : State) (c : Cause) : (s.raise c).table = s.table := rfl
@[simp] theorem State.raise_time (s : State) (c : Cause) : (s.raise c).time = s.time := rfl
@[simp] theorem State.raise_channels (s : State) (c : Cause) : (s.raise c).channels = s.channels := rfl
@[simp] theorem State.raise_senses (s : State) (c : Cause) : (s.raise c).senses = s.senses := rfl
@[simp] theorem State.raise_bindings (s : State) (c : Cause) : (s.raise c).bindings = s.bindings := rfl
@[simp] theorem State.raise_quiesce (s : State) (c : Cause) : (s.raise c).quiesce = s.quiesce := rfl
@[simp] theorem State.raise_attention (s : State) (c : Cause) : (s.raise c).attention = s.attention.raise c := rfl
@[simp] theorem State.raise_link (s : State) (c : Cause) : (s.raise c).link = s.link := rfl
@[simp] theorem State.raise_freeIx (s : State) (c : Cause) : (s.raise c).freeIx = s.freeIx := rfl

/-! ### setChannel -/

@[simp] theorem State.setChannel_pending (s : State) (c : ChannelIx) (x : Channel) : (s.setChannel c x).pending = s.pending := rfl
@[simp] theorem State.setChannel_rstn (s : State) (c : ChannelIx) (x : Channel) : (s.setChannel c x).rstn = s.rstn := rfl
@[simp] theorem State.setChannel_table (s : State) (c : ChannelIx) (x : Channel) : (s.setChannel c x).table = s.table := rfl
@[simp] theorem State.setChannel_time (s : State) (c : ChannelIx) (x : Channel) : (s.setChannel c x).time = s.time := rfl
@[simp] theorem State.setChannel_channels (s : State) (c : ChannelIx) (x : Channel) : (s.setChannel c x).channels = s.channels.set c x c.isLt := rfl
@[simp] theorem State.setChannel_senses (s : State) (c : ChannelIx) (x : Channel) : (s.setChannel c x).senses = s.senses := rfl
@[simp] theorem State.setChannel_bindings (s : State) (c : ChannelIx) (x : Channel) : (s.setChannel c x).bindings = s.bindings := rfl
@[simp] theorem State.setChannel_quiesce (s : State) (c : ChannelIx) (x : Channel) : (s.setChannel c x).quiesce = s.quiesce := rfl
@[simp] theorem State.setChannel_attention (s : State) (c : ChannelIx) (x : Channel) : (s.setChannel c x).attention = s.attention := rfl
@[simp] theorem State.setChannel_link (s : State) (c : ChannelIx) (x : Channel) : (s.setChannel c x).link = s.link := rfl
@[simp] theorem State.setChannel_freeIx (s : State) (c : ChannelIx) (x : Channel) : (s.setChannel c x).freeIx = s.freeIx := rfl

/-! ### setSense -/

@[simp] theorem State.setSense_pending (s : State) (n : SenseIx) (x : SenseInput) : (s.setSense n x).pending = s.pending := rfl
@[simp] theorem State.setSense_rstn (s : State) (n : SenseIx) (x : SenseInput) : (s.setSense n x).rstn = s.rstn := rfl
@[simp] theorem State.setSense_table (s : State) (n : SenseIx) (x : SenseInput) : (s.setSense n x).table = s.table := rfl
@[simp] theorem State.setSense_time (s : State) (n : SenseIx) (x : SenseInput) : (s.setSense n x).time = s.time := rfl
@[simp] theorem State.setSense_channels (s : State) (n : SenseIx) (x : SenseInput) : (s.setSense n x).channels = s.channels := rfl
@[simp] theorem State.setSense_senses (s : State) (n : SenseIx) (x : SenseInput) : (s.setSense n x).senses = s.senses.set n x n.isLt := rfl
@[simp] theorem State.setSense_bindings (s : State) (n : SenseIx) (x : SenseInput) : (s.setSense n x).bindings = s.bindings := rfl
@[simp] theorem State.setSense_quiesce (s : State) (n : SenseIx) (x : SenseInput) : (s.setSense n x).quiesce = s.quiesce := rfl
@[simp] theorem State.setSense_attention (s : State) (n : SenseIx) (x : SenseInput) : (s.setSense n x).attention = s.attention := rfl
@[simp] theorem State.setSense_link (s : State) (n : SenseIx) (x : SenseInput) : (s.setSense n x).link = s.link := rfl
@[simp] theorem State.setSense_freeIx (s : State) (n : SenseIx) (x : SenseInput) : (s.setSense n x).freeIx = s.freeIx := rfl

/-! ### setBinding -/

@[simp] theorem State.setBinding_pending (s : State) (b : BindingIx) (x : Binding) : (s.setBinding b x).pending = s.pending := rfl
@[simp] theorem State.setBinding_rstn (s : State) (b : BindingIx) (x : Binding) : (s.setBinding b x).rstn = s.rstn := rfl
@[simp] theorem State.setBinding_table (s : State) (b : BindingIx) (x : Binding) : (s.setBinding b x).table = s.table := rfl
@[simp] theorem State.setBinding_time (s : State) (b : BindingIx) (x : Binding) : (s.setBinding b x).time = s.time := rfl
@[simp] theorem State.setBinding_channels (s : State) (b : BindingIx) (x : Binding) : (s.setBinding b x).channels = s.channels := rfl
@[simp] theorem State.setBinding_senses (s : State) (b : BindingIx) (x : Binding) : (s.setBinding b x).senses = s.senses := rfl
@[simp] theorem State.setBinding_bindings (s : State) (b : BindingIx) (x : Binding) : (s.setBinding b x).bindings = s.bindings.set b x b.isLt := rfl
@[simp] theorem State.setBinding_quiesce (s : State) (b : BindingIx) (x : Binding) : (s.setBinding b x).quiesce = s.quiesce := rfl
@[simp] theorem State.setBinding_attention (s : State) (b : BindingIx) (x : Binding) : (s.setBinding b x).attention = s.attention := rfl
@[simp] theorem State.setBinding_link (s : State) (b : BindingIx) (x : Binding) : (s.setBinding b x).link = s.link := rfl
@[simp] theorem State.setBinding_freeIx (s : State) (b : BindingIx) (x : Binding) : (s.setBinding b x).freeIx = s.freeIx := rfl

/-! ### enqueue -/

@[simp] theorem State.enqueue_pending (s : State) (e : Entry) : (s.enqueue e).pending = s.pending := rfl
@[simp] theorem State.enqueue_rstn (s : State) (e : Entry) : (s.enqueue e).rstn = s.rstn := rfl
@[simp] theorem State.enqueue_table (s : State) (e : Entry) : (s.enqueue e).table = s.table := rfl
@[simp] theorem State.enqueue_time (s : State) (e : Entry) : (s.enqueue e).time = s.time := rfl
@[simp] theorem State.enqueue_channels (s : State) (e : Entry) : (s.enqueue e).channels = s.channels := rfl
@[simp] theorem State.enqueue_senses (s : State) (e : Entry) : (s.enqueue e).senses = s.senses := rfl
@[simp] theorem State.enqueue_bindings (s : State) (e : Entry) : (s.enqueue e).bindings = s.bindings := rfl
@[simp] theorem State.enqueue_quiesce (s : State) (e : Entry) : (s.enqueue e).quiesce = s.quiesce := rfl
@[simp] theorem State.enqueue_attention (s : State) (e : Entry) : (s.enqueue e).attention = s.attention := rfl
@[simp] theorem State.enqueue_link (s : State) (e : Entry) : (s.enqueue e).link = { s.link with queue := s.link.queue ++ [e] } := rfl
@[simp] theorem State.enqueue_freeIx (s : State) (e : Entry) : (s.enqueue e).freeIx = s.freeIx := rfl

end Sys2Proof.Machine
end

