-- ==== Sys2Proof/Laws/Attention.lean ====
section
/-! SUPPORT. What a raise and a report do to the Attention Unit, and what the reports of the two level conditions leave. -/

namespace Sys2Proof.Machine

theorem Cause.ix_injective {c d : Cause} (h : c.ix = d.ix) : c = d := by
  cases c <;> cases d <;> first | rfl | exact absurd h (by decide)

@[simp] theorem Attention.cause_put_self (a : Attention) (c : Cause) (x : CauseState) : (a.put c x).cause c = x := by
  simp [Attention.cause, Attention.put]

theorem Attention.cause_put_ne (a : Attention) {c d : Cause} (x : CauseState) (h : c ≠ d) :
    (a.put c x).cause d = a.cause d := by
  have h' : c.ix.val ≠ d.ix.val := fun e => h (Cause.ix_injective (Fin.ext e))
  simp [Attention.cause, Attention.put, h']

@[simp] theorem Attention.put_lastMark (a : Attention) (c : Cause) (x : CauseState) : (a.put c x).lastMark = a.lastMark := rfl

/-- A raise: the cause pending with one more in its count, and no other cause changed (R160). -/
theorem Attention.cause_raise (a : Attention) (c d : Cause) :
    (a.raise c).cause d = if c = d then (a.cause d).raised else a.cause d := by
  split
  · next h => subst h; exact a.cause_put_self c _
  · next h => exact a.cause_put_ne _ h

/-- A level cause is pending after a report exactly when the condition holds (R161). -/
@[simp] theorem CauseState.reported_pending (x : CauseState) (holds : Bool) : (x.reported holds).pending = holds := by
  cases holds <;> cases hp : x.pending <;> simp [CauseState.reported, CauseState.raised, hp]

/-- A report of a condition that stands changes nothing (R161). -/
theorem CauseState.reported_same (x : CauseState) : x.reported x.pending = x := by
  obtain ⟨p, n, m⟩ := x
  cases p <;> rfl

theorem Attention.cause_report (a : Attention) (c d : Cause) (holds : Bool) :
    (a.report c holds).cause d = if c = d then (a.cause d).reported holds else a.cause d := by
  split
  · next h => subst h; exact a.cause_put_self c _
  · next h => exact a.cause_put_ne _ h

@[simp] theorem State.reportLevels_pending (s : State) : s.reportLevels.pending = s.pending := rfl
@[simp] theorem State.reportLevels_rstn (s : State) : s.reportLevels.rstn = s.rstn := rfl
@[simp] theorem State.reportLevels_table (s : State) : s.reportLevels.table = s.table := rfl
@[simp] theorem State.reportLevels_time (s : State) : s.reportLevels.time = s.time := rfl
@[simp] theorem State.reportLevels_channels (s : State) : s.reportLevels.channels = s.channels := rfl
@[simp] theorem State.reportLevels_senses (s : State) : s.reportLevels.senses = s.senses := rfl
@[simp] theorem State.reportLevels_bindings (s : State) : s.reportLevels.bindings = s.bindings := rfl
@[simp] theorem State.reportLevels_quiesce (s : State) : s.reportLevels.quiesce = s.quiesce := rfl
@[simp] theorem State.reportLevels_link (s : State) : s.reportLevels.link = s.link := rfl
@[simp] theorem State.reportLevels_freeIx (s : State) : s.reportLevels.freeIx = s.freeIx := rfl

/-- The reports leave DONE_PENDING and TABLE_LOW pending exactly while their conditions hold, and every other cause as it was
(R161). -/
theorem State.reportLevels_cause (s : State) (c : Cause) :
    s.reportLevels.attention.cause c = match c with
      | .donePending => (s.attention.cause .donePending).reported (!s.table.doneList.isEmpty)
      | .tableLow => (s.attention.cause .tableLow).reported (s.table.freeCount < s.table.lowThreshold)
      | c => s.attention.cause c := by
  cases c <;> simp [State.reportLevels, Attention.cause_report]

/-- ATTN is HIGH exactly when some unmasked cause is pending (R167). -/
theorem Attention.attn_eq_high (a : Attention) :
    a.attn = .high ↔ ∃ k : Fin 11, a.causes[k].pending = true ∧ a.causes[k].masked = false := by
  unfold Attention.attn
  constructor
  · intro h
    split at h
    · next hx =>
      obtain ⟨i, hi, hp⟩ := Vector.any_eq_true.mp hx
      exact ⟨⟨i, hi⟩, by simpa using hp⟩
    · cases h
  · rintro ⟨k, hp, hm⟩
    have : a.causes.any (fun x => x.pending && !x.masked) = true :=
      Vector.any_eq_true.mpr ⟨k.val, k.isLt, by simp_all⟩
    simp [this]

end Sys2Proof.Machine
end

