-- ==== Sys2Proof/Laws/Channels.lean ====
section
/-! SUPPORT. What a channel makes of a firing, said once, and what a firing changes in the part. -/

namespace Sys2Proof.Machine

@[simp] theorem Channel.toRest_state (c : Channel) : c.toRest.state = .rest := rfl
@[simp] theorem Channel.toRest_line (c : Channel) : c.toRest.line = c.rest := rfl
@[simp] theorem Channel.toAsserted_state (c : Channel) : c.toAsserted.state = .asserted := rfl
@[simp] theorem Channel.toAsserted_line (c : Channel) : c.toAsserted.line = c.active := rfl
@[simp] theorem Channel.enterSafe_state (c : Channel) : c.enterSafe.state = .safe := rfl
@[simp] theorem Channel.enterSafe_line (c : Channel) : c.enterSafe.line = c.safeLine := rfl
@[simp] theorem Channel.leaveSafe_line (c : Channel) : c.leaveSafe.line = c.line := rfl

/-- An applied firing keeps the configuration and the three counters (R72, R73, R74). -/
theorem Channel.apply_keeps (c : Channel) (f : Firing) :
    (c.apply f).rest = c.rest ∧ (c.apply f).safe = c.safe ∧ (c.apply f).policy = c.policy
    ∧ (c.apply f).conflicts = c.conflicts ∧ (c.apply f).merges = c.merges ∧ (c.apply f).preemptions = c.preemptions := by
  unfold Channel.apply
  split <;> try exact ⟨rfl, rfl, rfl, rfl, rfl, rfl⟩
  split <;> exact ⟨rfl, rfl, rfl, rfl, rfl, rfl⟩

/-- No applied firing leaves a channel SAFE (R72, R73, R74). -/
theorem Channel.apply_state_ne_safe (c : Channel) (f : Firing) : (c.apply f).state ≠ .safe := by
  unfold Channel.apply
  split <;> try simp [Channel.toRest, Channel.toAsserted]
  split <;> simp

/-- Everything a channel that is not SAFE can make of a firing: applied on a steady channel, merged, pre-empting, or refused
(R70, R72, R75, R76, R77). -/
theorem Channel.take_cases (c : Channel) (f : Firing) (hs : c.state ≠ .safe) :
    ((c.state = .rest ∨ c.state = .asserted) ∧ c.take f = (c.apply f, .fired))
    ∨ (∃ q h g w, c.state = .pulse q h g ∧ f.action = .pulse w ∧ c.policy = .merge
        ∧ c.take f = ({ c with state := .pulse (max f.priority q) h (max g w), merges := bump16 c.merges }, .merged))
    ∨ (∃ q, q < f.priority ∧ c.inFlight = true
        ∧ c.take f = ({ c.settleFromLine with preemptions := bump16 c.preemptions }.apply f, .fired))
    ∨ (∃ q, ¬ q < f.priority ∧ c.inFlight = true ∧ c.take f = ({ c with conflicts := bump16 c.conflicts }, .conflict)) := by
  unfold Channel.take
  split
  · next h => exact .inl ⟨.inl h, rfl⟩
  · next h => exact .inl ⟨.inr h, rfl⟩
  · next q h g hp =>
    split
    · next w hw hm => exact .inr (.inl ⟨q, h, g, w, hp, hw, hm, rfl⟩)
    · unfold Channel.contest
      split
      · next hq => exact .inr (.inr (.inl ⟨q, hq, by simp [Channel.inFlight, hp], rfl⟩))
      · next hq => exact .inr (.inr (.inr ⟨q, hq, by simp [Channel.inFlight, hp], rfl⟩))
  · next q h p k n hi lo hb =>
    unfold Channel.contest
    split
    · next hq => exact .inr (.inr (.inl ⟨q, hq, by simp [Channel.inFlight, hb], rfl⟩))
    · next hq => exact .inr (.inr (.inr ⟨q, hq, by simp [Channel.inFlight, hb], rfl⟩))
  · next h => exact absurd h hs

@[simp] theorem ChanAction.timed_pulse (b : Bool) (w : Nat) :
    (ChanAction.pulse w).timed b = .pulse (if b then w + 1 else w) := rfl
@[simp] theorem ChanAction.timed_assert (b : Bool) : ChanAction.assert.timed b = .assert := rfl
@[simp] theorem ChanAction.timed_release (b : Bool) : ChanAction.release.timed b = .release := rfl
@[simp] theorem ChanAction.timed_toggle (b : Bool) : ChanAction.toggle.timed b = .toggle := rfl
@[simp] theorem ChanAction.timed_burst (b : Bool) (x : Burst) : (ChanAction.burst x).timed b = .burst x := rfl
@[simp] theorem State.timed_action (s : State) (f : Firing) : (s.timed f).action = f.action.timed s.time.grainWhole := rfl
@[simp] theorem State.timed_priority (s : State) (f : Firing) : (s.timed f).priority = f.priority := rfl
@[simp] theorem State.timed_handle (s : State) (f : Firing) : (s.timed f).handle = f.handle := rfl

/-- Where no tick of this instant is to come, a firing counts as it was sent. -/
theorem ChanAction.timed_false (a : ChanAction) : a.timed false = a := by cases a <;> rfl

/-- A firing changes one channel and, where it is refused, the CONFLICT cause; nothing else (R70, R87). -/
theorem State.fire_frame (s : State) (c : ChannelIx) (f : Firing) :
    (s.fire c f).1.pending = s.pending ∧ (s.fire c f).1.rstn = s.rstn ∧ (s.fire c f).1.table = s.table
    ∧ (s.fire c f).1.time = s.time ∧ (s.fire c f).1.senses = s.senses ∧ (s.fire c f).1.bindings = s.bindings
    ∧ (s.fire c f).1.quiesce = s.quiesce ∧ (s.fire c f).1.link = s.link ∧ (s.fire c f).1.freeIx = s.freeIx
    ∧ (s.fire c f).1.channels = s.channels.set c ((s.channels[c]).take (s.timed f)).1 c.isLt := by
  simp only [State.fire]
  split <;> exact ⟨rfl, rfl, rfl, rfl, rfl, rfl, rfl, rfl, rfl, rfl⟩

end Sys2Proof.Machine
end

