-- ==== Sys2Proof/Laws/Periods.lean ====
section
/-! SUPPORT. What the part's own clocks do: a happening taken is its command taken, a command taken on an empty queue is one that
is due, and the periods that pass are one period after another. -/

namespace Sys2Proof.Machine

/-- A phase with periods left does not change (R79). -/
@[simp] theorem Channel.phaseChange_of_left {c : Channel} {q h p k n hi lo}
    (hs : c.state = .burst q h p (k + 1) n hi lo) : c.phaseChange = c := by
  cases p <;> simp [Channel.phaseChange, hs]

/-- Taking an outstanding happening is taking its command. -/
theorem exec_command {s : State} (hr : s.rstn = .high) (x : Happening) : exec x.command s = .next (s.takeHappening x) := by
  cases x <;>
    simp [Happening.command, exec, State.takeHappening, execFallingDue, execPulseEnd, execBurstPhaseChange, hr]

/-- Everything that `ownCommand` can answer: a command that is due with RSTn high, or none where none is. -/
theorem State.ownCommand_cases (s : State) :
    (∃ c, s.ownCommand = some c ∧ s.rstn = .high ∧ c ∈ s.ownCommands)
    ∨ (s.ownCommand = none ∧ (s.rstn = .low ∨ s.ownCommands = [])) := by
  unfold State.ownCommand
  cases hr : s.rstn with
  | low => simp
  | high =>
    match hl : s.ownCommands with
    | [] => simp
    | [c] => exact .inl ⟨c, by simp, rfl, by simp⟩
    | c :: d :: rest =>
      refine .inl ⟨_, by simp only [reduceCtorEq, if_false]; rfl, rfl, ?_⟩
      have hk : Config.happeningOrder s.freeIx % (c :: d :: rest).length < (c :: d :: rest).length :=
        Nat.mod_lt _ (by simp)
      rw [List.getD_eq_getElem _ _ hk]
      exact List.getElem_mem hk

/-- What is due of itself: the outstanding happenings, and GRAIN_TICK where the grain is whole. -/
theorem State.mem_ownCommands {s : State} {c : Instr} : c ∈ s.ownCommands ↔
    (∃ x ∈ s.outstanding, x.command = c) ∨ (c = .grainTick ∧ s.time.divisor ≤ s.time.grainPhase) := by
  unfold State.ownCommands Timebases.grainWhole
  by_cases h : s.time.divisor ≤ s.time.grainPhase <;> simp [h]

/-- A step on an empty queue, as the command taken or the period passed. -/
theorem step_empty {s : State} (hp : s.pending = []) : step s = match s.ownCommand with
    | some c => exec c (s.setFreeIx (s.freeIx + 1))
    | none => .next s.refclkPeriod := by
  cases h : s.ownCommand <;> simp [step, hp, h]

/-- Periods that pass, one after another. -/
theorem State.passPeriods_add (m n : Nat) (s : State) : State.passPeriods (m + n) s = State.passPeriods n (State.passPeriods m s) := by
  induction m generalizing s with
  | zero => simp [State.passPeriods]
  | succ m ih => rw [Nat.succ_add]; exact ih s.passPeriod

end Sys2Proof.Machine
end

