-- ==== Sys2Proof/Laws/Requests.lean ====
section
/-! SUPPORT. The three ways a request frame of good length and CRC can go at a window close, and what the handle checks find. -/

namespace Sys2Proof.Machine

/-- While RSTn is low the link takes nothing (R180). -/
theorem State.submit_low (s : State) (tag : Byte) (claim : State → State × Reply) (h : s.rstn = .low) :
    s.submit tag claim = s := by
  simp [State.submit, State.submitEntry, h]

/-- A blocked link discards the frame and sets the refusal latch (step 6 of R173). -/
theorem State.submit_blocked (s : State) (tag : Byte) (claim : State → State × Reply) (h : s.rstn = .high)
    (hb : s.link.blocked = true) : s.submit tag claim = s.setLink { s.link with refusal := true } := by
  simp [State.submit, State.submitEntry, h, hb]

/-- An accepted request takes its claim, and its reply joins the tail of the queue (R174). -/
theorem State.submit_accepted (s : State) (tag : Byte) (claim : State → State × Reply) (h : s.rstn = .high)
    (hb : s.link.blocked = false) :
    s.submit tag claim = (claim s).1.enqueue { tag := tag, reply := some (claim s).2 } := by
  simp [State.submit, State.submitEntry, h, hb]

/-- The link is blocked exactly while the refusal latch is set or four entries wait (step 6 of R173). -/
theorem Link.blocked_eq_false (l : Link) : l.blocked = false ↔ l.refusal = false ∧ l.queue.length < 4 := by
  rw [Link.blocked, Bool.or_eq_false_iff]
  exact and_congr_right fun _ => decide_eq_false_iff_not.trans Nat.not_le

@[simp] theorem withPad_fits (u : Unit) (s : State) (claim : State → State × Reply) :
    withPad (.fits u) s claim = claim s := rfl
@[simp] theorem withPad_unfit (s : State) (claim : State → State × Reply) :
    withPad .unfit s claim = refuse s .badField := rfl
@[simp] theorem withItems_fits {α : Type} (a : α) (s : State) (claim : α → State → State × Reply) :
    withItems (.fits a) s claim = claim a s := rfl
@[simp] theorem withItems_unfit {α : Type} (s : State) (claim : α → State → State × Reply) :
    withItems .unfit s claim = refuse s .badField := rfl

theorem finOf_eq_some {n x : Nat} {i : Fin n} : finOf n x = some i ↔ x = i.val := by
  unfold finOf
  split
  · next h => simp [Fin.ext_iff]
  · next h =>
    constructor
    · intro e; cases e
    · rintro rfl; exact absurd i.isLt h

theorem finOf_eq_none {n x : Nat} : finOf n x = none ↔ n ≤ x := by
  unfold finOf
  split
  · next h => simp; omega
  · next h => simp; omega

/-- The handle checks pass exactly for a handle at the generation of a live slot of a table that is NORMAL (R3). -/
theorem checkHandle_eq_ok (s : State) (h : HandleItems) (i : SlotIx) (r : ActionRecord) :
    checkHandle s h = .ok (i, r) ↔
      s.sweeping = false ∧ h.slot.toNat = i.val ∧ s.table.recordAt i = some r ∧ (s.table.slot i).gen = h.gen := by
  unfold checkHandle
  split
  · next hn =>
    rw [finOf_eq_none] at hn
    simp only [reduceCtorEq, false_iff]
    rintro ⟨-, e, -⟩
    have := i.isLt; omega
  · next j hj =>
    rw [finOf_eq_some] at hj
    have key : h.slot.toNat = i.val ↔ j = i := by rw [hj]; exact (Fin.ext_iff).symm
    rw [key]
    by_cases hs : s.sweeping = true
    · simp [hs]
    · simp only [hs]
      cases hr : s.table.recordAt j with
      | none =>
        simp only [Bool.false_eq_true, if_false, reduceCtorEq, false_iff]
        rintro ⟨-, rfl, h2, -⟩
        rw [hr] at h2; cases h2
      | some x =>
        by_cases hg : (s.table.slot j).gen = h.gen
        · simp only [Bool.false_eq_true, if_false, hg, if_true, Except.ok.injEq, Prod.mk.injEq]
          constructor
          · rintro ⟨rfl, rfl⟩; exact ⟨by simp, rfl, hr, hg⟩
          · rintro ⟨-, rfl, h2, -⟩; rw [hr] at h2; exact ⟨rfl, by cases h2; rfl⟩
        · simp only [Bool.false_eq_true, if_false, hg, reduceCtorEq, false_iff]
          rintro ⟨-, rfl, -, h3⟩
          exact hg h3

end Sys2Proof.Machine
end

