-- ==== Sys2Proof/Laws/Table.lean ====
section
/-! SUPPORT. What the shared operations on the Action Table do: reading a slot after a write, the lists of slots, and the ways a
record leaves its work. -/

namespace Sys2Proof.Machine

/-! ### Slots -/

@[simp] theorem ActionTable.slot_setSlot_self (t : ActionTable) (i : SlotIx) (x : Slot) : (t.setSlot i x).slot i = x := by
  simp [ActionTable.slot, ActionTable.setSlot]

theorem ActionTable.slot_setSlot_ne (t : ActionTable) {i j : SlotIx} (x : Slot) (h : i ≠ j) :
    (t.setSlot i x).slot j = t.slot j := by
  have h' : i.val ≠ j.val := fun e => h (Fin.ext e)
  simp [ActionTable.slot, ActionTable.setSlot, h']

theorem ActionTable.slot_setSlot (t : ActionTable) (i j : SlotIx) (x : Slot) :
    (t.setSlot i x).slot j = if i = j then x else t.slot j := by
  split
  · next h => subst h; simp
  · next h => exact t.slot_setSlot_ne x h

@[simp] theorem ActionTable.setSlot_suspended (t : ActionTable) (i : SlotIx) (x : Slot) :
    (t.setSlot i x).suspended = t.suspended := rfl
@[simp] theorem ActionTable.setSlot_doneList (t : ActionTable) (i : SlotIx) (x : Slot) :
    (t.setSlot i x).doneList = t.doneList := rfl
@[simp] theorem ActionTable.setSlot_reserve (t : ActionTable) (i : SlotIx) (x : Slot) :
    (t.setSlot i x).reserve = t.reserve := rfl
@[simp] theorem ActionTable.setSlot_lowThreshold (t : ActionTable) (i : SlotIx) (x : Slot) :
    (t.setSlot i x).lowThreshold = t.lowThreshold := rfl
@[simp] theorem ActionTable.setSlot_sweep (t : ActionTable) (i : SlotIx) (x : Slot) :
    (t.setSlot i x).sweep = t.sweep := rfl
@[simp] theorem ActionTable.write_suspended (t : ActionTable) (i : SlotIx) (r : ActionRecord) :
    (t.write i r).suspended = t.suspended := rfl
@[simp] theorem ActionTable.write_doneList (t : ActionTable) (i : SlotIx) (r : ActionRecord) :
    (t.write i r).doneList = t.doneList := rfl
@[simp] theorem ActionTable.write_reserve (t : ActionTable) (i : SlotIx) (r : ActionRecord) :
    (t.write i r).reserve = t.reserve := rfl
@[simp] theorem ActionTable.write_lowThreshold (t : ActionTable) (i : SlotIx) (r : ActionRecord) :
    (t.write i r).lowThreshold = t.lowThreshold := rfl
@[simp] theorem ActionTable.write_sweep (t : ActionTable) (i : SlotIx) (r : ActionRecord) :
    (t.write i r).sweep = t.sweep := rfl

/-- A write changes the record of its own slot only, and no generation or mark (R2, R12). -/
theorem ActionTable.slot_write (t : ActionTable) (i j : SlotIx) (r : ActionRecord) :
    (t.write i r).slot j = if i = j then { t.slot j with content := some r } else t.slot j := by
  rw [ActionTable.write, t.slot_setSlot]
  split
  · next h => rw [h]
  · rfl

theorem ActionTable.recordAt_write (t : ActionTable) (i j : SlotIx) (r : ActionRecord) :
    (t.write i r).recordAt j = if i = j then some r else t.recordAt j := by
  simp only [ActionTable.recordAt, t.slot_write]
  split <;> rfl

@[simp] theorem ActionTable.recordAt_write_self (t : ActionTable) (i : SlotIx) (r : ActionRecord) :
    (t.write i r).recordAt i = some r := by simp [t.recordAt_write]

/-! ### Lists of slots -/

theorem ActionTable.mem_slotsWith (t : ActionTable) (p : ActionRecord → Bool) (i : SlotIx) :
    i ∈ t.slotsWith p ↔ ∃ r, t.recordAt i = some r ∧ p r = true := by
  simp [ActionTable.slotsWith, Option.any_eq_true]

theorem ActionTable.slotsWith_nodup (t : ActionTable) (p : ActionRecord → Bool) : (t.slotsWith p).Nodup :=
  (List.nodup_finRange 128).filter _

theorem ActionTable.mem_freeSlots (t : ActionTable) (i : SlotIx) : i ∈ t.freeSlots ↔ t.recordAt i = none := by
  simp [ActionTable.freeSlots]

theorem ActionTable.freeSlots_nodup (t : ActionTable) : t.freeSlots.Nodup := (List.nodup_finRange 128).filter _

/-- Some record waits in a domain exactly when a slot's record is ARMED or SUSPENDED there. -/
theorem ActionTable.anyWaiting_eq_false (t : ActionTable) (d : Domain) :
    t.anyWaiting d = false ↔ ∀ i r, t.recordAt i = some r → r.waitsIn d = false := by
  simp only [ActionTable.anyWaiting, Bool.not_eq_false', List.isEmpty_iff, List.eq_nil_iff_forall_not_mem,
    t.mem_slotsWith]
  constructor
  · intro h i r hr
    by_contra hw
    exact h i ⟨r, hr, by simpa using hw⟩
  · rintro h i ⟨r, hr, hw⟩
    simp [h i r hr] at hw

/-- A channel is locked exactly when some PARKED, ARMED or SUSPENDED record names it (R8). -/
theorem ActionTable.locks_eq_true (t : ActionTable) (c : ChannelIx) :
    t.locks c = true ↔ ∃ i r, t.recordAt i = some r ∧ r.phase.isActive = true ∧ r.channel = some c := by
  simp only [ActionTable.locks, Bool.not_eq_true', List.isEmpty_eq_false_iff_exists_mem, t.mem_slotsWith]
  simp [Bool.and_eq_true]

/-! ### Leaving a record's work -/

@[simp] theorem State.dropLive_table (s : State) (o : Origin) : (s.dropLive o).table = s.table := by
  cases o <;> rfl
@[simp] theorem State.dropLive_attention (s : State) (o : Origin) : (s.dropLive o).attention = s.attention := by
  cases o <;> rfl

/-- The live count of each binding after a record of origin `o` has gone (R5). -/
theorem State.dropLive_live (s : State) (o : Origin) (b : BindingIx) :
    ((s.dropLive o).bindings[b]).live = match o with
      | .host => (s.bindings[b]).live
      | .binding x _ => if x = b then (s.bindings[b]).live - 1 else (s.bindings[b]).live := by
  cases o with
  | host => rfl
  | binding x n =>
    by_cases h : x = b
    · subst h; simp [State.dropLive]
    · have h' : x.val ≠ b.val := fun e => h (Fin.ext e)
      simp [State.dropLive, h, h']

/-- Everything a freeing does to the slots and the lists (R2, R5). -/
theorem State.freeSlot_table (s : State) (i : SlotIx) (r : ActionRecord) :
    (∀ j, (s.freeSlot i r).table.slot j =
      if i = j then { s.table.slot i with gen := (s.table.slot i).gen + 1, content := none } else s.table.slot j)
    ∧ (s.freeSlot i r).table.suspended = s.table.suspended.erase i
    ∧ (s.freeSlot i r).table.doneList = s.table.doneList.erase i := by
  refine ⟨fun j => ?_, ?_, ?_⟩
  · simp only [State.freeSlot, State.dropLive_table, State.setTable_table]
    exact s.table.slot_setSlot i j _
  · simp [State.freeSlot]
  · simp [State.freeSlot]

/-- Everything a completion or retirement with keep does to the records and the lists (R58, R94). -/
theorem State.makeDone_table (s : State) (i : SlotIx) (r : ActionRecord) (reason : EndReason) :
    (∀ j, (s.makeDone i r reason).table.recordAt j =
      if i = j then some { r with phase := .done r.phase.due reason } else s.table.recordAt j)
    ∧ (s.makeDone i r reason).table.suspended = s.table.suspended.erase i
    ∧ (s.makeDone i r reason).table.doneList = s.table.doneList ++ [i] := by
  refine ⟨fun j => ?_, ?_, ?_⟩
  · simp only [State.makeDone, State.setTable_table]
    exact s.table.recordAt_write i j _
  · simp [State.makeDone]
  · simp [State.makeDone]

/-- Everything an arming does to the records and the lists (R17). -/
theorem State.armAt_table (s : State) (i : SlotIx) (r : ActionRecord) (due : Word) :
    (∀ j, (s.armAt i r due).table.recordAt j = if i = j then some { r with phase := .armed due } else s.table.recordAt j)
    ∧ (s.armAt i r due).table.suspended = s.table.suspended.erase i
    ∧ (s.armAt i r due).table.doneList = s.table.doneList := by
  refine ⟨fun j => ?_, ?_, ?_⟩
  · simp only [State.armAt, State.setTable_table]
    exact s.table.recordAt_write i j _
  · simp [State.armAt]
  · simp [State.armAt]

end Sys2Proof.Machine
end

