-- ==== Sys2Proof/Tests/Slice0.lean ====
section
/-! SUPPORT. Tests. First the smoke tests of `Instr.wf`, one ill-formed term for each check. Then a few steps of each family,
with the values that the spec's own examples and tables give (named in each comment). Last, for each obligation with hypotheses,
a theorem that concrete states and operands meet them. -/

namespace Sys2Proof.Tests

set_option Elab.async false

open Sys2Proof Sys2Proof.Machine

/-! ### Ill-formed commands are refused -/

/-- The items of a TIME ASSERT on channel 1, from which the terms below differ in one item. -/
def plain : RecordItems :=
  { domain := .time, direction := none, kind := .assert, channel := some 1, width := none, burst := none, priority := 1,
    rep := none, keep := false, miss := .drop }

/-- An ARM of items, armed at offset 5 with no group. -/
def armOf (i : RecordItems) : Instr :=
  .arm 1 (.fits { start := .armed, form := .offset, value := some 5, items := i, group := none })

/-- A BIND_WRITE of binding 0 on input 0 with one step. -/
def bindOf (n : Nat) (i : RecordItems) : Instr :=
  .bindWrite 1 (.fits { binding := 0, input := 0, steps := [{ offset := n, items := i }] })

/-- An AMEND of slot 3 that selects nothing, from which the terms below differ in one item. -/
def noChange : AmendBody :=
  { due := none, width := none, burst := none, priority := none, rep := none, keep := none, miss := none, group := none,
    namesFixed := false }

def amendOf (b : AmendBody) : Instr := .amend 1 (.fits { handle := { slot := 3, gen := 0 }, body := .fits b })

theorem test_wf_plain : (armOf plain).wf = true ∧ (bindOf 5 plain).wf = true ∧ (amendOf noChange).wf = true := by decide
theorem test_wf_settings : (Instr.settings 1 (.fits { reserve := 256, lowThreshold := 0 })).wf = false
    ∧ (Instr.settings 1 (.fits { reserve := 0, lowThreshold := 256 })).wf = false := by decide
theorem test_wf_divisor : (Instr.setGrain 1 (.fits 65536)).wf = false := by decide
theorem test_wf_channel_number : (Instr.chanConfig 1 (.fits { channel := 256, rest := .low, safe := .rest, policy := .strict })).wf
    = false ∧ (Instr.chanRead 1 (.fits 256)).wf = false := by decide
theorem test_wf_group_number : (Instr.goGroup 1 (.fits 256)).wf = false ∧ (Instr.retireGroup 1 (.fits 256)).wf = false := by
  decide
theorem test_wf_scan : (Instr.scan 1 (.fits 256)).wf = false := by decide
theorem test_wf_sense :
    (Instr.senseConfig 1 (.fits { input := 256, enable := true, edges := .rise, prescale := 1, gap := 0 })).wf = false
    ∧ (Instr.senseConfig 1 (.fits { input := 0, enable := true, edges := .rise, prescale := 256, gap := 0 })).wf = false
    ∧ (Instr.senseConfig 1 (.fits { input := 0, enable := true, edges := .rise, prescale := 1, gap := 65536 })).wf = false
    ∧ (Instr.readStamp 1 (.fits 256)).wf = false := by decide
theorem test_wf_binding_number : (Instr.bindEnable 1 (.fits 256)).wf = false ∧ (Instr.bindRead 1 (.fits 256)).wf = false
    ∧ (Instr.bindDisable 1 (.fits { binding := 256, retire := true })).wf = false
    ∧ (Instr.bindWrite 1 (.fits { binding := 256, input := 0, steps := [] })).wf = false
    ∧ (Instr.bindWrite 1 (.fits { binding := 0, input := 256, steps := [] })).wf = false := by decide
theorem test_wf_direction : (armOf { plain with direction := some .fwd }).wf = false
    ∧ (armOf { plain with domain := .position }).wf = false := by decide
theorem test_wf_record_channel : (armOf { plain with channel := none }).wf = false
    ∧ (armOf { plain with channel := some 16 }).wf = false
    ∧ (armOf { plain with kind := .mark, channel := some 0 }).wf = false := by decide
theorem test_wf_priority : (armOf { plain with priority := 4 }).wf = false := by decide
theorem test_wf_repeat : (armOf { plain with rep := some { interval := 2 ^ 32, run := none } }).wf = false
    ∧ (armOf { plain with rep := some { interval := 1, run := some (.counted 65536) } }).wf = false := by decide
theorem test_wf_arm_work : (armOf { plain with width := some 0 }).wf = false
    ∧ (armOf { plain with width := some 65536 }).wf = false
    ∧ (armOf { plain with burst := some { high := 1, low := 1, cycles := 1 } }).wf = false
    ∧ (armOf { plain with burst := some { high := 0, low := 0, cycles := 0 } }).wf = false
    ∧ (armOf { plain with kind := .burst }).wf = false
    ∧ (armOf { plain with kind := .burst, burst := some { high := 256, low := 1, cycles := 1 } }).wf = false
    ∧ (armOf { plain with kind := .burst, burst := some { high := 1, low := 256, cycles := 1 } }).wf = false
    ∧ (armOf { plain with kind := .burst, burst := some { high := 1, low := 1, cycles := 65536 } }).wf = false
    ∧ (armOf { plain with kind := .burst, width := some 1, burst := some { high := 1, low := 1, cycles := 1 } }).wf
      = false := by decide
theorem test_wf_arm_group :
    (Instr.arm 1 (.fits { start := .armed, form := .offset, value := some 5, items := plain, group := some 0 })).wf = false
    ∧ (Instr.arm 1 (.fits { start := .armed, form := .offset, value := some 5, items := plain, group := some 16 })).wf
      = false := by decide
theorem test_wf_step : (bindOf (2 ^ 32) plain).wf = false ∧ (bindOf 5 { plain with width := some 1 }).wf = false
    ∧ (bindOf 5 { plain with kind := .pulse }).wf = false ∧ (bindOf 5 { plain with kind := .burst }).wf = false
    ∧ (bindOf 5 { plain with burst := some { high := 1, low := 1, cycles := 1 } }).wf = false
    ∧ (bindOf 5 { plain with rep := some { interval := 1, run := none } }).wf = false := by decide
theorem test_wf_amend : (amendOf { noChange with width := some 65536 }).wf = false
    ∧ (amendOf { noChange with burst := some { high := 256, low := 1, cycles := 1 } }).wf = false
    ∧ (amendOf { noChange with width := some 2, burst := some { high := 1, low := 1, cycles := 1 } }).wf = false
    ∧ (amendOf { noChange with priority := some 4 }).wf = false
    ∧ (amendOf { noChange with rep := some (.set { interval := 2 ^ 32, run := none }) }).wf = false
    ∧ (amendOf { noChange with group := some 16 }).wf = false := by decide

/-- R185: four PULSE steps of 8 bytes fit one frame; four BURST steps of 10 do not, and no five steps do. -/
theorem test_wf_steps :
    stepsWf (List.replicate 4 { offset := 5, items := { plain with kind := .pulse, width := some 3 } }) = true
    ∧ stepsWf (List.replicate 4 { offset := 5, items := { plain with kind := .burst, burst := some ⟨1, 1, 1⟩ } }) = false
    ∧ stepsWf (List.replicate 5 { offset := 5, items := plain }) = false := by decide

/-! ### Small states -/

/-- A step's next state. -/
def after (c : Instr) (s : State) : State :=
  match exec c s with
  | .next t => t
  | .fault _ => s
  | .refused _ => s

/-- The last reply in the response queue. -/
def lastReply (s : State) : Option (Result × List Byte) :=
  s.link.queue.getLast?.bind (fun e => e.reply.map (fun r => (r.result, r.payload)))

/-- Reset, then out of the quiesced condition, with TB-T running at `t` and TB-P at `p`. -/
def awake (t p : Word) : State :=
  { State.reset with
    quiesce := { latch := false, mirror := .high }
    channels := State.reset.channels.map Channel.leaveSafe
    time := { State.reset.time with running := true, tbT := t, tbP := p, lastDir := some .fwd } }

/-- A record of a work, with priority 1, no repeat and no keep. -/
def rec (b : Base) (w : Work) (p : Phase) : ActionRecord :=
  { origin := .host, what := { base := b, work := w, priority := 1, rep := none, keep := false, miss := .drop },
    group := none, phase := p, fired := 0, late := 0, conflict := 0, missed := 0, last := .none }

/-- The record `r` put into slot `i`. -/
def put (i : SlotIx) (r : ActionRecord) (s : State) : State := { s with table := s.table.write i r }

/-- A channel's state and line replaced. -/
def chan (c : ChannelIx) (x : ChanState) (l : Level) (s : State) : State :=
  { s with channels := s.channels.set c { s.channels[c] with state := x, line := l } c.isLt }

/-- A filled entry of the response queue. -/
def filled (tag : Byte) : Entry := { tag := tag, reply := some { result := .busy, payload := [] } }

/-- The response queue replaced. -/
def queue (l : List Entry) (s : State) : State := { s with link := { s.link with queue := l } }

/-! ### Frames, the CRC and the status byte (chapters 10 and 11) -/

/-- R172: CRC-8 with x^8 + x^2 + x + 1 from 00h; its published check value over "123456789" is F4h. -/
theorem test_crc_check_value : crc8 [0x31, 0x32, 0x33, 0x34, 0x35, 0x36, 0x37, 0x38, 0x39] = 0xF4 := by decide +kernel

/-- R169: eight bits make a byte, most significant first; a part of a byte is discarded. -/
theorem test_bits_msb_first :
    bytesOfBits [true, false, true, false, false, false, false, false, true, true, true] = [0xA0] := by decide +kernel

/-- R181: the codes that the rule names. -/
theorem test_request_codes :
    decodeRequest 0x11 7 [8, 16] = .settings 7 (.fits { reserve := 8, lowThreshold := 16 })
    ∧ decodeRequest 0x21 7 [0x01, 0x00] = .setGrain 7 (.fits 256)
    ∧ decodeRequest 0x29 7 [0x55] = .readP 7 (.fits ())
    ∧ decodeRequest 0x59 7 [0, 0] = .tableClear 7 .unfit
    ∧ decodeRequest 0x74 7 [3] = .bindRead 7 (.fits 3)
    ∧ decodeRequest 0x91 7 [0] = .collect 7 (.fits none)
    ∧ decodeRequest 0x91 7 [5, 3] = .collect 7 (.fits (some { slot := 5, gen := 3 }))
    ∧ decodeRequest 0xA1 7 [0] = .ident 7 (.fits ())
    ∧ decodeRequest 0xA2 7 [0] = .softReset 7 (.fits ())
    ∧ decodeRequest 0x31 7 [0] = .unknownRequest 7 ∧ decodeRequest 0x5A 7 [0] = .unknownRequest 7 := by decide

/-- Table 11-2, written out bit by bit: ARM, start ARMED (2), ABSOLUTE (8), POSITION (16), REV (32), keep (64), HOLD (128): FAh;
PULSE (3), priority 2 (16), counted repeat (32): 33h; channel 4, group 9: 94h. -/
theorem test_arm_record_bytes :
    decodeRequest 0x51 1 [0xFA, 0x33, 0x94, 0, 0, 0x10, 0x04, 0, 0, 0, 5, 0, 6, 0x01, 0x2C, 0, 0] =
      .arm 1 (.fits
        { start := .armed, form := .absolute, value := some 4100
          items := { domain := .position, direction := some .rev, kind := .pulse, channel := some 4, width := some 300,
                     burst := none, priority := 2, rep := some { interval := 5, run := some (.counted 6) },
                     keep := true, miss := .hold }
          group := some 9 }) := by decide

/-- Table 11-3: a BURST step of 10 bytes on channel 2, carrier 8 and 9, 513 cycles. -/
theorem test_step_image_bytes :
    decodeRequest 0x71 1 [0, 3, 0x02, 0x04, 0, 0, 0, 7, 8, 9, 2, 1] =
      .bindWrite 1 (.fits { binding := 0, input := 3, steps := [{ offset := 7, items := { plain with
        kind := .burst, channel := some 2, burst := some { high := 8, low := 9, cycles := 513 }, priority := 0 } }] }) := by
  decide

/-- R182's example, window 3 of "The Queue Around a TABLE_CLEAR": two entries, the head reserved, while SWEEPING: A0h. -/
theorem test_status_byte_window_3 :
    (after .windowStart (queue [{ tag := 0x21, reply := none }, filled 0x22]
      { awake 0 0 with table := { State.reset.table with sweep := some 37 } })).misoByte 0 = some 0xA0 := by decide +kernel

/-- R169: A0h goes out as 1010 0000. -/
theorem test_miso_bits :
    let s := after .windowStart (queue [{ tag := 0x21, reply := none }, filled 0x22]
      { awake 0 0 with table := { State.reset.table with sweep := some 37 } })
    (List.range 9).map s.misoBit = [true, false, true, false, false, false, false, false, false].map some
    ∧ (awake 0 0).misoBit 0 = none := by decide +kernel

/-- Windows 7 and 8 there: 21h's frame is five bytes (length 04h); three bytes clocked leave it at the head, six consume it. -/
theorem test_window_consumes_whole_frame :
    let s := after .windowStart (queue [{ tag := 0x21, reply := some { result := .ok, payload := [37] } }] (awake 0 0))
    s.misoByte 1 = some 0x04 ∧ s.misoByte 2 = some 0x21
    ∧ (after (.windowClose (List.replicate 24 false)) s).link.queue.length = 1
    ∧ (after (.windowClose (List.replicate 48 false)) s).link.queue.length = 0 := by decide +kernel

/-- Window 10 there: a SETTINGS_READ frame of five bytes is taken at the close, and its entry follows the head consumed. -/
theorem test_window_takes_a_frame :
    let bits (b : Byte) : List Bool := (List.range 8).map (fun k => b.getLsbD (7 - k))
    let s := after .windowStart (queue [filled 0x23, filled 0x24] (awake 0 0))
    let frame := [0x04, 0x25, 0x12, 0x00, crc8 [0x25, 0x12, 0x00]]
    (after (.windowClose (frame.flatMap bits)) s).link.queue.map (·.tag) = [0x24, 0x25] := by decide +kernel

/-- Window 9 there: READ_T's response has length byte 0Ah. -/
theorem test_read_t_frame_length :
    lastReply (after (.readT 0x22 (.fits ())) (awake 0x12345678 0)) = some (.ok, [0x12, 0x34, 0x56, 0x78, 1, 0, 16])
    ∧ (responseFrame 0x22 { result := .ok, payload := [0x12, 0x34, 0x56, 0x78, 1, 0, 16] }).head? = some 0x0A := by
  decide +kernel

/-- Windows 5 and 6 there: a full queue discards the frame and sets the refusal latch. -/
theorem test_full_queue_refuses :
    let s := after (.settingsRead 0x25 (.fits ())) (queue (List.replicate 4 (filled 1)) (awake 0 0))
    s.link.refusal = true ∧ s.link.queue.length = 4 := by decide +kernel

/-! ### Timebases (chapter 2) -/

/-- The present grain whole. -/
def late (s : State) : State := { s with time := { s.time with grainPhase := s.time.divisor } }

/-- R26: TB-T wraps from 2^32 - 1 to 0. -/
theorem test_tick_wraps : (after .grainTick (late (awake 0xFFFFFFFF 0))).time.tbT = 0 := by decide +kernel

/-- R24 and R79: with divisor 4 the grain's four REFCLK periods pass with its tick, in which a burst of 2 and 2 that has 1 left
goes LOW, and HIGH with one cycle fewer, of which 1 period is then over. -/
theorem test_tick_passes_the_grain :
    let s := chan 3 (.burst 1 { slot := 0, gen := 0 } .high 1 3 2 2) .high (awake 5 0)
    let t := after .grainTick { s with time := { s.time with divisor := 4 } }
    t.time.tbT = 6 ∧ t.time.grainPhase = 0
    ∧ (t.channels[3]).state = .burst 1 { slot := 0, gen := 0 } .high 1 2 2 2 := by decide +kernel

/-- R24: on an empty queue the sixteenth period makes the grain whole, and the tick follows. -/
theorem test_empty_queue_ticks :
    let s := { awake 5 0 with time := { (awake 5 0).time with grainPhase := 15 } }
    let next (s : State) : State := match step s with
      | .next t => t
      | .fault _ => s
      | .refused _ => s
    (next s).time.grainPhase = 16 ∧ (next s).time.tbT = 5 ∧ (next (next s)).time.tbT = 6
    ∧ (next (next s)).time.grainPhase = 0 := by decide +kernel

/-- R33: a REV step from 0 gives 2^32 - 1. -/
theorem test_step_wraps : (after (.encoderStep .rev) (awake 0 0)).time.tbP = 0xFFFFFFFF := by decide +kernel

/-- The belt reversal, happening 4: a REV step onto 997 makes 30:1's MARK due, kept DONE, and 12:4 stays ARMED. -/
theorem test_belt_reversal :
    let mark := rec (.position .rev) .mark (.armed 997)
    let s := after (.encoderStep .rev) (put 12 (rec (.position .fwd) (.onChannel 3 (.pulse 5)) (.armed 1000))
      (put 30 { mark with what := { mark.what with keep := true } } (awake 0 998)))
    let t := after (.fallingDue (.mark 30)) s
    s.time.tbP = 997 ∧ t.table.doneList = [30] ∧ t.attention.lastMark = some { slot := 30, gen := 0 }
    ∧ (t.table.recordAt 12).map (·.phase) = some (.armed 1000)
    ∧ (after (.fallingDue (.channel .position 3)) s).table.recordAt 12 = s.table.recordAt 12 := by decide +kernel

/-- Homing, happening 4: the index edge gives TB-P the home value 100 and disarms. -/
theorem test_index_edge :
    let s := { awake 0 113 with time := { (awake 0 113).time with homing := true, homeValue := 100 } }
    (after .enczRisingEdge s).time.tbP = 100 ∧ (after .enczRisingEdge s).time.homing = false := by
  decide +kernel

/-- R41: SOFT_RESET finds ENCZ LOW where no index edge has come. -/
theorem test_soft_reset_encz : (after (.softReset 1 (.fits ())) (awake 0 113)).time.encZ = .low := by decide +kernel

/-- R34: the reference moves by both lines, TB-P stays. -/
theorem test_encoder_fault :
    (after .encoderFault (awake 0 999)).time.tbP = 999 ∧ (after .encoderFault (awake 0 999)).time.encA = .high
    ∧ ((after .encoderFault (awake 0 999)).attention.cause .encFault).count = 1 := by decide +kernel

/-! ### Falling due and channels (chapters 3 and 4) -/

/-- Four records due at one advance: on STRICT channel 2, 3:0 fires first by its slot, and 7:1 is refused CONFLICT and freed. -/
theorem test_four_records_channel_2 :
    let kept := rec .time (.onChannel 2 (.pulse 80)) (.armed 20000)
    let s := put 3 { kept with what := { kept.what with keep := true } }
      (put 7 (rec .time (.onChannel 2 (.pulse 50)) (.armed 20000)) (awake 20000 0))
    let t := after (.fallingDue (.channel .time 2)) s
    (t.channels[2]).state = .pulse 1 { slot := 3, gen := 0 } 80 ∧ (t.channels[2]).conflicts = 1
    ∧ t.table.doneList = [3] ∧ t.table.recordAt 7 = none ∧ (t.table.slot 7).gen = 1
    ∧ (t.attention.cause .conflict).count = 1 := by decide +kernel

/-- The same advance on channel 4: an endless ASSERT is armed again at 25000. -/
theorem test_four_records_channel_4 :
    let r := rec .time (.onChannel 4 .assert) (.armed 20000)
    let s := put 9 { r with what := { r.what with rep := some { interval := 5000, remaining := none } } } (awake 20000 0)
    let t := after (.fallingDue (.channel .time 4)) s
    (t.channels[4]).state = .asserted ∧ (t.channels[4]).line = .high
    ∧ (t.table.recordAt 9).map (·.phase) = some (.armed 25000) := by decide +kernel

/-- Merge and Pre-emption on One Channel, ticks 5040 to 5110. -/
theorem test_merge_example :
    let h : Handle := { slot := 10, gen := 0 }
    let c := { Channel.initial with state := .pulse 1 h 60, line := .high, policy := .merge }
    let c1 := (c.take { action := .pulse 100, priority := 0, handle := { slot := 11, gen := 0 } }).1
    let c2 := ({ c1 with state := .pulse 1 h 80 }.take { action := .pulse 20, priority := 2, handle := h }).1
    let c3 := c2.take { action := .burst { high := 8, low := 8, cycles := 50 }, priority := 2, handle := h }
    let c4 := (c3.1.take { action := .release, priority := 3, handle := h }).1
    c1.state = .pulse 1 h 100 ∧ c2.state = .pulse 2 h 80 ∧ c3.2 = .conflict ∧ c3.1.state = c2.state
    ∧ c4.state = .rest ∧ c4.line = .low ∧ (c4.merges, c4.preemptions, c4.conflicts) = (2, 1, 1) := by decide

/-- R73, R75 and R80: at a whole grain, the tick of the instant is counted neither by a pulse of width 1 that begins ahead of it
nor by one merged into a pulse whose end tick it is; half a grain later it is. -/
theorem test_tick_of_the_instant_not_counted :
    let h : Handle := { slot := 10, gen := 0 }
    let f : Firing := { action := .pulse 1, priority := 1, handle := h }
    let begun (s : State) : ChanState := ((after .grainTick (s.fire 5 f).1).channels[5]).state
    let half := { awake 0 0 with time := { (awake 0 0).time with grainPhase := 8 } }
    let pulsing := chan 5 (.pulse 1 h 1) .high (late (awake 0 0))
    let merging := pulsing.setChannel 5 { pulsing.channels[5] with policy := .merge }
    begun (late (awake 0 0)) = .pulse 1 h 1 ∧ begun half = .pulse 1 h 0 ∧ begun merging = .pulse 1 h 1 := by
  decide +kernel

/-- R80, firing first: a BURST that pre-empts at the end of a phase keeps its own HIGH phase. -/
theorem test_preempted_phase_change :
    let s := chan 5 (.burst 1 { slot := 0, gen := 0 } .high 0 4 8 8) .high (awake 0 0)
    let f : Firing := { action := .burst ⟨9, 9, 2⟩, priority := 2, handle := { slot := 1, gen := 0 } }
    let t := after (.burstPhaseChange 5) (s.fire 5 f).1
    (t.channels[5]).state = .burst 2 { slot := 1, gen := 0 } .high 9 2 9 9
    ∧ ((after (.burstPhaseChange 5) s).channels[5]).state = .burst 1 { slot := 0, gen := 0 } .low 8 4 8 8 := by
  decide +kernel

/-- R79: the last LOW phase ends the burst. -/
theorem test_burst_last_phase :
    let s := chan 5 (.burst 1 { slot := 0, gen := 0 } .low 0 1 8 8) .low (awake 0 0)
    ((after (.burstPhaseChange 5) s).channels[5]).state = .rest := by decide +kernel

/-- R78: the end tick reached ends the pulse; one grain before it nothing ends. -/
theorem test_pulse_end :
    ((after (.pulseEnd 5) (chan 5 (.pulse 1 { slot := 0, gen := 0 } 0) .high (awake 0 0))).channels[5]).line = .low
    ∧ ((after (.pulseEnd 5) (chan 5 (.pulse 1 { slot := 0, gen := 0 } 1) .high (awake 0 0))).channels[5]).line = .high := by
  decide +kernel

/-- R67: SAFE with the new safe level ACTIVE drives the new active level. -/
theorem test_chan_config_safe :
    ((after (.chanConfig 1 (.fits { channel := 2, rest := .high, safe := .active, policy := .strict }))
      State.reset).channels[2]).line = .low := by decide +kernel

/-- Table 11-1: CHAN_READ of a SAFE channel after reset: state 4, configuration 0, nothing in flight, counters 0. -/
theorem test_chan_read_reset :
    lastReply (after (.chanRead 1 (.fits 0)) State.reset) =
      some (.ok, [4, 0, 0, 0xFF, 0xFF, 0, 0, 0, 0, 0, 0, 0, 0]) := by decide +kernel

/-! ### Table requests (chapters 1 and 5) -/

/-- R91: the ARM takes the lowest FREE slot; handle, ARMED, and the due value now plus the offset. -/
theorem test_arm_answers : lastReply (after (armOf plain) (awake 100 0)) = some (.ok, [0, 0, 2, 0, 0, 0, 105]) := by decide +kernel

/-- R90: an ABSOLUTE due equal to TB-T does not lie ahead. -/
theorem test_arm_range :
    lastReply (after (.arm 1 (.fits { start := .armed, form := .absolute, value := some 100, items := plain, group := none }))
      (awake 100 0)) = some (.range, []) := by decide +kernel

/-- A Parked Group, happening 5: GO_GROUP at TB-T 50400 and TB-P 2010 arms at 51400 and 2510. -/
theorem test_go_group :
    let s := put 20 { rec .time (.onChannel 1 (.pulse 300)) (.parked 1000) with group := some 4 }
      (put 21 { rec (.position .fwd) .mark (.parked 500) with group := some 4 } (awake 50400 2010))
    let t := after (.goGroup 1 (.fits 4)) s
    lastReply t = some (.ok, [2]) ∧ (t.table.recordAt 20).map (·.phase) = some (.armed 51400)
    ∧ (t.table.recordAt 21).map (·.phase) = some (.armed 2510) := by decide +kernel

/-- A Parked Group, happening 9: without keep the member is FREE at its next generation. -/
theorem test_retire_group :
    let s := put 22 { rec .time (.onChannel 2 .assert) (.armed 51900) with group := some 4 } (awake 51400 0)
    let t := after (.retireGroup 1 (.fits 4)) s
    lastReply t = some (.ok, [1]) ∧ t.table.recordAt 22 = none ∧ (t.table.slot 22).gen = 1
    ∧ lastReply (after (.peek 1 (.fits { slot := 22, gen := 0 })) t) = some (.stale, []) := by decide +kernel

/-- R92 and R93: a PARKED record's OFFSET is replaced and answered. -/
theorem test_amend_offset :
    let s := put 3 { rec .time (.onChannel 2 .assert) (.parked 2000) with group := some 4 } (awake 0 0)
    lastReply (after (amendOf { noChange with due := some (.offset, 1500) }) s) = some (.ok, [1, 0, 0, 0x05, 0xDC]) := by
  decide +kernel

/-- R94: a DONE record is refused STATE. -/
theorem test_retire_done :
    let s := put 3 (rec .time .mark (.done (some 5) .completed)) (awake 0 0)
    lastReply (after (.retire 1 (.fits { slot := 3, gen := 0 })) s) = some (.state, []) := by decide +kernel

/-- Table 11-2: the image of an ARMED PULSE, TIME, priority 1, channel 2, width 80. -/
theorem test_peek_image :
    let s := put 3 (rec .time (.onChannel 2 (.pulse 80)) (.armed 20000)) (awake 0 0)
    lastReply (after (.peek 1 (.fits { slot := 3, gen := 0 })) s) = some (.ok,
      [0x02, 0x0B, 0x02, 0, 0, 0x4E, 0x20, 0, 0, 0, 0, 0, 0, 0, 80, 0, 0, 3, 0, 0, 0, 0, 0, 0, 0, 0, 0, 0, 0, 0, 0]) := by
  decide +kernel

/-- R99: the lowest live slot at or above the start. -/
theorem test_scan :
    let s := put 3 (rec .time .mark (.armed 20000)) (awake 0 0)
    lastReply (after (.scan 1 (.fits 3)) s) = some (.ok, [3, 0, 2])
    ∧ lastReply (after (.scan 1 (.fits 4)) s) = some (.empty, []) := by decide +kernel

/-- R18 and R100: fewest grains ahead modulo 2^32. -/
theorem test_next_due_wraps :
    let s := put 3 (rec .time .mark (.armed 5)) (put 4 (rec .time .mark (.armed 0xFFFFFFF0)) (awake 0xFFFFFF00 0))
    lastReply (after (.nextDue 1 (.fits ())) s) = some (.ok, [4, 0, 0xFF, 0xFF, 0xFF, 0xF0]) := by decide +kernel

/-- R105 and R106: the live slot is marked at acceptance and steps its generation at the sweep end, where the entry is filled. -/
theorem test_table_clear :
    let s := after (.tableClear 0x21 (.fits ())) (put 3 (rec .time .mark (.armed 5)) (awake 0 0))
    s.sweeping = true ∧ lastReply s = none ∧ (s.table.slot 3).gen = 0
    ∧ lastReply (after .sweepEnd s) = some (.ok, [1]) ∧ ((after .sweepEnd s).table.slot 3).gen = 1 := by decide +kernel

/-- R15: a threshold raised above the free count is a rise of TABLE_LOW; and R16's eight values. -/
theorem test_settings :
    let s := after (.settings 1 (.fits { reserve := 64, lowThreshold := 127 })) (put 3 (rec .time .mark (.armed 5))
      (put 4 (rec .time .mark (.armed 5)) (awake 0 0)))
    (s.attention.cause .tableLow).pending = true
    ∧ lastReply (after (.settingsRead 1 (.fits ())) s) = some (.ok, [64, 127, 126, 0, 2, 0, 0, 0]) := by decide +kernel

/-! ### Sense inputs and bindings (chapters 6 and 7) -/

/-- Sense input 1 of the chattering sensor, after one accepted edge `e` grains ago. -/
def chattering (e : Nat) : State :=
  let s := awake 1300 4410
  { s with senses := s.senses.set 1 { s.senses[1] with
      enable := true, prescale := 2, minGap := 200, prescaleCount := 1, gapTracker := some e } }

/-- Happenings 2 and 4 there: at 50 grains the edge is ignored; at 300 it is accepted and qualifies. -/
theorem test_chattering_sensor :
    ((after (.senseEdge 1 .high) (chattering 50)).senses[1]).unread = false
    ∧ ((after (.senseEdge 1 .high) (chattering 50)).senses[1]).gapTracker = some 50
    ∧ ((after (.senseEdge 1 .high) (chattering 300)).senses[1]).stampT = 1300
    ∧ ((after (.senseEdge 1 .high) (chattering 300)).senses[1]).stampP = 4410
    ∧ ((after (.senseEdge 1 .high) (chattering 300)).senses[1]).prescaleCount = 0
    ∧ ((after (.senseEdge 1 .high) (chattering 300)).senses[1]).gapTracker = some 0 := by decide +kernel

/-- Table 11-4: the stamp image of that edge, RISE and unread. -/
theorem test_read_stamp :
    lastReply (after (.readStamp 1 (.fits 1)) (after (.senseEdge 1 .high) (chattering 300))) =
      some (.ok, [1, 0, 0, 0x05, 0x14, 0, 0, 0x11, 0x3A, 0x05]) := by decide +kernel

/-- The reject line: input 0 enabled, binding 0 with a jet 1200 counts ahead and a MARK at 1600. -/
def rejectLine (reserve : Nat) : State :=
  let s := awake 0 1000
  { s with
    table := { s.table with reserve := reserve }
    senses := s.senses.set 0 { s.senses[0] with enable := true, minGap := 100 }
    bindings := s.bindings.set 0 { s.bindings[0] with
      enabled := true
      steps := [
        { what := (rec (.position .fwd) (.onChannel 4 (.pulse 5000)) (.armed 0)).what, offset := 1200 },
        { what := (rec (.position .fwd) .mark (.armed 0)).what, offset := 1600 }] } }

/-- Edge A there: both records ARMED from the stamp, ordinal 1, live 2. -/
theorem test_reject_line_edge :
    let t := after (.senseEdge 0 .high) (rejectLine 8)
    (t.table.recordAt 0).map (·.phase) = some (.armed 2200) ∧ (t.table.recordAt 1).map (·.phase) = some (.armed 2600)
    ∧ (t.table.recordAt 1).map (·.origin) = some (.binding 0 0) ∧ (t.bindings[0]).ordinal = 1 ∧ (t.bindings[0]).live = 2
    ∧ t.table.freeCount = 126 := by decide +kernel

/-- R132: a spawn that would leave fewer than the reserve fails POOL and takes no slot; one that leaves exactly it does not. -/
theorem test_spawn_pool :
    (((after (.senseEdge 0 .high) (rejectLine 127)).bindings[0]).lastFail,
      (after (.senseEdge 0 .high) (rejectLine 127)).table.freeCount) = (some .pool, 128)
    ∧ ((after (.senseEdge 0 .high) (rejectLine 126)).bindings[0]).lastFail = none := by decide +kernel

/-- R129: BIND_DISABLE with the retire option frees the binding's records and answers their number. -/
theorem test_bind_disable :
    let s := after (.senseEdge 0 .high) (rejectLine 8)
    let t := after (.bindDisable 1 (.fits { binding := 0, retire := true })) s
    lastReply t = some (.ok, [2]) ∧ (t.bindings[0]).live = 0 ∧ (t.bindings[0]).enabled = false := by decide +kernel

/-- R125 and R127: an enabled binding is not rewritten; one without steps is not enabled. -/
theorem test_bind_checks :
    lastReply (after (bindOf 5 plain) (rejectLine 8)) = some (.state, [])
    ∧ lastReply (after (.bindEnable 1 (.fits 3)) (rejectLine 8)) = some (.state, []) := by decide +kernel

/-! ### Quiesce, completion and attention (chapters 8 and 9) -/

/-- DROP and HOLD, happening 1: rest level HIGH with safe level ACTIVE falls to LOW; KEEP stays HIGH. -/
theorem test_quiesce_lines :
    let s := awake 40100 0
    let c2 := { s.channels[2] with rest := .high, safe := .active, line := .high }
    let c0 := { s.channels[0] with safe := .keep, state := .burst 1 { slot := 0, gen := 0 } .high 4 2 8 8, line := .high }
    let s := { s with channels := (s.channels.set 2 c2).set 0 c0 }
    let t := after (.quiesce 1 (.fits ())) s
    (t.channels[2]).line = .low ∧ (t.channels[0]).line = .high ∧ (t.channels[0]).state = .safe
    ∧ (t.attention.cause .trip).count = 0 := by decide +kernel

/-- Repetition Catch-up Through a Quiesce, happening 7: at 14200 the record of due 11500 is ARMED at 14500 with 1 remaining,
two missed, LATE. -/
theorem test_resume_catches_up :
    let r := rec .time (.onChannel 5 (.pulse 200)) (.suspended 11500)
    let r := { r with what := { r.what with rep := some { interval := 1000, remaining := some 4 } }, fired := 1, last := .fired }
    let s := put 40 r { State.reset with time := (awake 14200 0).time }
    let t := after (.resume 1 (.fits ())) { s with table := { s.table with suspended := [40] } }
    lastReply t = some (.ok, [1])
    ∧ (t.table.recordAt 40).map (fun r => (r.phase, r.what.rep.bind (·.remaining), r.fired, r.late, r.missed, r.last)) =
        some (.armed 14500, some 1, 2, 1, 2, .late)
    ∧ (t.attention.cause .missed).count = 2 := by decide +kernel

/-- R143: RESUME with the pin LOW is refused STATE. -/
theorem test_resume_pin_low :
    lastReply (after (.resume 1 (.fits ())) { State.reset with quiesce := { latch := true, mirror := .low } }) =
      some (.state, []) := by decide +kernel

/-- R141 and R144: a falling edge raises TRIP and is shown. -/
theorem test_falling_edge :
    let s := after .quiescenFallingEdge (awake 0 0)
    (s.attention.cause .trip).count = 1 ∧ lastReply (after (.quiesceRead 1 (.fits ())) s) = some (.ok, [5, 0]) := by
  decide +kernel

/-- R155 and R157: COLLECT frees the head of the done list; DONE_PENDING ends. -/
theorem test_collect :
    let s := put 5 (rec .time .mark (.done (some 5) .completed)) (awake 0 0)
    let t := after (.collect 1 (.fits none)) { s with table := { s.table with doneList := [5] } }
    t.table.doneList = [] ∧ (t.table.slot 5).gen = 1 ∧ (t.attention.cause .donePending).pending = false := by decide +kernel

/-- Attention Over a Short Shift, happening 5: MARK clears, TABLE_LOW keeps its flag with count 0. -/
theorem test_ack_attention :
    let s := awake 0 0
    let s := { s with attention := (s.attention.raise .mark).report .tableLow true }
    let t := after (.ackAttention 1 (.fits 0b100011)) s
    t.attention.cause .mark = { pending := false, count := 0, masked := false }
    ∧ t.attention.cause .tableLow = { pending := true, count := 0, masked := false } ∧ t.attention.attn = .high := by
  decide +kernel

/-- R166 and R163: STAMP_OVERRUN (bit 6) masked is pending without driving ATTN. -/
theorem test_set_mask :
    let t := after (.setMask 1 (.fits 0b1000000)) { awake 0 0 with attention := Attention.initial.raise .stampOverrun }
    t.attention.attn = .low ∧ (lastReply (after (.readAttention 1 (.fits ())) t)).map (fun x => x.2.take 4) =
      some [0, 0x40, 0, 0x40] := by decide +kernel

/-! ### Resets (R23, R179, R180) -/

/-- SOFT_RESET steps a live slot's generation and leaves its own OK in the queue. -/
theorem test_soft_reset :
    let t := after (.softReset 9 (.fits ())) (put 3 (rec .time .mark (.armed 5)) (queue [filled 1, filled 2] (awake 0 0)))
    (t.table.slot 3).gen = 1 ∧ (t.table.slot 4).gen = 0 ∧ t.link.queue.map (·.tag) = [9] ∧ t.quiesced = true := by decide +kernel

/-- RSTn low empties the queue; with CSn low at its rise the link waits. -/
theorem test_rstn :
    let l : Lines := { enca := .low, encb := .low, encz := .low, quiescen := .low, csn := .low, sen := Vector.replicate 8 .high }
    let t := after .rstnLow (queue [filled 1] (awake 0 0))
    t.link.queue = [] ∧ (after (.rstnHigh l) t).link.window = .awaitRise ∧ (after (.rstnHigh l) t).quiesce.mirror = .low
    ∧ ((after (.rstnHigh l) t).senses[7]).lineRef = .high
    ∧ (after .csnRiseAfterReset (after (.rstnHigh l) t)).link.window = .idle := by decide +kernel

/-- IDENT (R178) and UNKNOWN (R174). -/
theorem test_ident_and_unknown :
    lastReply (after (.ident 1 (.fits ())) State.reset) = some (.ok, [0x44, 0xD8, 0x01])
    ∧ lastReply (after (.unknownRequest 1) State.reset) = some (.unknown, []) := by decide +kernel

/-! ### Witnesses: the hypotheses of each obligation can be met

Each theorem is named after its obligation and gives, clause by clause, states and operands that meet the hypotheses together. -/

/-- In a table as after reset every slot is FREE. -/
theorem free_everywhere (i : SlotIx) : State.reset.table.recordAt i = none := by revert i; decide +kernel

theorem awake_free (t p : Word) (i : SlotIx) : (awake t p).table.recordAt i = none := free_everywhere i

theorem put_recordAt (i j : SlotIx) (r : ActionRecord) (s : State) :
    (put i r s).table.recordAt j = if i = j then some r else s.table.recordAt j := s.table.recordAt_write i j r

/-- The only record of `put i r` over an empty table. -/
theorem put_only {i j : SlotIx} {r q : ActionRecord} {t p : Word} (h : (put i r (awake t p)).table.recordAt j = some q) :
    j = i ∧ q = r := by
  rw [put_recordAt, awake_free] at h
  split at h
  · next e => exact ⟨e.symm, by cases h; rfl⟩
  · cases h

theorem exists_record {o : Option ActionRecord} {p : ActionRecord → Bool} : (∃ r, o = some r ∧ p r = true) ↔ o.any p = true :=
  (Option.any_eq_true _ _).symm

/-- The part held in reset. -/
def low : State := { State.reset with rstn := .low }

/-- The table SWEEPING with the entry reserved. -/
def sweeping : State :=
  queue [{ tag := 1, reply := none }] { awake 0 0 with table := { State.reset.table with sweep := some 0 } }

/-- A PULSE and an ASSERT record, a MARK, and the two that a quiesced table can hold besides. -/
def pulseRec : ActionRecord := rec .time (.onChannel 5 (.pulse 200)) (.armed 100)
def markRec : ActionRecord := rec .time .mark (.armed 100)
def positionRec : ActionRecord := rec (.position .fwd) (.onChannel 5 .toggle) (.armed 100)
def doneRec : ActionRecord := rec .time .mark (.done (some 5) .completed)
def parkedRec : ActionRecord := { rec .time (.onChannel 1 .assert) (.parked 7) with group := some 4 }

/-- A handle of slot `n` at generation 0. -/
def handle (n : Nat) : HandleItems := { slot := BitVec.ofNat 8 n, gen := 0 }

theorem accepts_awake (t p : Word) : (awake t p).accepts := ⟨rfl, rfl, show 0 < 4 by decide⟩
theorem accepts_put (i : SlotIx) (r : ActionRecord) (t p : Word) : (put i r (awake t p)).accepts :=
  ⟨rfl, rfl, show 0 < 4 by decide⟩

theorem witness_StepTakesTheFrontCommand :
    ({ State.reset with pending := [.grainTick, .sweepEnd] } : State).pending = .grainTick :: [.sweepEnd] := rfl

/-- RSTn low; a grain that is whole; an awake part in which nothing is due, with a burst in flight and without. -/
theorem witness_EmptyQueueRunsThePartsOwnClocks :
    (low.pending = [] ∧ low.rstn = .low) ∧ ((awake 0 0).pending = [] ∧ (awake 0 0).rstn = .high)
    ∧ ({ awake 0 0 with time := { (awake 0 0).time with grainPhase := 16 } } : State).comesDue .grainTick
    ∧ ((chan 3 (.burst 1 { slot := 0, gen := 0 } .high 8 2 8 8) .high (awake 0 0)).channels[3]).state =
        .burst 1 { slot := 0, gen := 0 } .high 8 2 8 8
    ∧ ∀ q h p k n hi lo, ((awake 0 0).channels[3]).state ≠ .burst q h p k n hi lo := by
  refine ⟨⟨rfl, rfl⟩, ⟨rfl, rfl⟩, show 16 ≤ 16 by decide, by decide +kernel, ?_⟩
  intro q h p k n hi lo
  rw [show ((awake 0 0).channels[3]).state = .rest by decide +kernel]
  exact ChanState.noConfusion

theorem awake_not_due (t p : Word) (c : Instr) : ¬ (awake t p).comesDue c := by
  have free : ∀ i r, (awake t p).table.recordAt i ≠ some r := fun i r h => by rw [awake_free] at h; cases h
  have rest : ∀ x : ChannelIx, ((awake t p).channels[x]).state = .rest := by
    show ∀ x : ChannelIx, ((State.reset.channels.map Channel.leaveSafe)[x]).state = .rest
    decide +kernel
  unfold State.comesDue
  split
  · exact show ¬ 16 ≤ 0 by decide
  · rintro ⟨i, r, -, -, h, -⟩
    exact free i r h
  · rintro ⟨r, -, h, -⟩
    exact free _ r h
  · next x => rintro ⟨q, h, e⟩; rw [rest x] at e; cases e
  · next x => rintro ⟨q, h, ph, n, hi, lo, e⟩; rw [rest x] at e; cases e
  · exact id

theorem witness_ResetsRestoreEveryBlock :
    low.rstn = .low ∧ State.reset.rstn = .high
    ∧ Instr.grainTick ≠ .rstnLow ∧ (∀ l, Instr.grainTick ≠ .rstnHigh l) ∧ ∀ v l, Instr.grainTick ≠ .powerOn v l :=
  ⟨rfl, rfl, nofun, nofun, nofun⟩

/-- The queue of three entries is the boundary. -/
theorem witness_SoftResetRestoresEveryBlock :
    State.reset.accepts ∧ (queue (List.replicate 3 (filled 1)) (awake 0 0)).accepts :=
  ⟨⟨rfl, rfl, by decide +kernel⟩, rfl, rfl, by decide +kernel⟩

theorem witness_BlockedLinkDiscardsEveryRequest :
    requestTag (.ident 1 (.fits ())) = some 1 ∧ (queue (List.replicate 4 (filled 1)) (awake 0 0)).rstn = .high
    ∧ 4 ≤ (queue (List.replicate 4 (filled 1)) (awake 0 0)).link.queue.length
    ∧ ({ awake 0 0 with link := { (awake 0 0).link with refusal := true } } : State).link.refusal = true := by
  decide +kernel

theorem witness_RefusedRequestChangesNothing :
    requestTag (.unknownRequest 1) = some 1 ∧ (awake 0 0).accepts
    ∧ exec (.unknownRequest 1) (awake 0 0) = .next ((awake 0 0).answered 1 .unknown [])
    ∧ ((awake 0 0).answered 1 .unknown []).link.queue =
        (awake 0 0).link.queue ++ [{ tag := 1, reply := some { result := .unknown, payload := [] } }]
    ∧ Result.unknown ≠ .ok := ⟨rfl, accepts_awake 0 0, rfl, rfl, by decide⟩

theorem witness_AcceptedRequestJoinsTheQueue :
    requestTag (.tableClear 1 (.fits ())) = some 1 ∧ (awake 0 0).accepts ∧ (awake 0 0).normal
    ∧ Instr.tableClear 1 (.fits ()) ≠ .softReset 1 (.fits ())
    ∧ requestTag (.ident 1 (.fits ())) = some 1 ∧ Instr.ident 1 (.fits ()) ≠ .softReset 1 (.fits ()) :=
  ⟨rfl, accepts_awake 0 0, rfl, nofun, rfl, nofun⟩

/-- A window without a response, and one that showed RDY and FAULT. -/
def quiet : Window := { status := 0, rdy := false, fault := false, frame := [] }
def showing : Window := { status := 0x94, rdy := true, fault := true, frame := responseFrame 1 { result := .busy, payload := [] } }

/-- A window in progress. -/
def inWindow (w : Window) (s : State) : State := { s with link := { s.link with window := .inProgress w } }

theorem witness_WindowStartFormsTheStatusByte :
    ((awake 0 0).rstn = .high ∧ (awake 0 0).link.window = .idle ∧ (awake 0 0).link.queue.length ≤ 4)
    ∧ ((queue (List.replicate 4 (filled 1)) (awake 0 0)).link.window = .idle
      ∧ (queue (List.replicate 4 (filled 1)) (awake 0 0)).link.queue =
          filled 1 :: List.replicate 3 (filled 1) ∧ (filled 1).reply = some { result := .busy, payload := [] })
    ∧ (inWindow quiet (awake 0 0)).link.window ≠ .idle := by decide +kernel

/-- The bits of bytes, each most significant bit first. -/
def bitsOf (l : List Byte) : List Bool := l.flatMap (fun b => (List.range 8).map (fun k => b.getLsbD (7 - k)))

/-- The longest frame, 36 payload bytes, and the shortest. -/
def longest : List Byte := 0x27 :: 1 :: 0x71 :: List.replicate 36 0 ++ [crc8 (1 :: 0x71 :: List.replicate 36 0)]
def shortest : List Byte := 0x04 :: 1 :: 0xA1 :: [0] ++ [crc8 (1 :: 0xA1 :: [0])]

theorem witness_WindowCloseFollowsTheSteps :
    ((inWindow showing (queue [filled 1] (awake 0 0))).rstn = .high
      ∧ (inWindow showing (queue [filled 1] (awake 0 0))).link.window = .inProgress showing
      ∧ showing.frame.length + 1 ≤ (bytesOfBits (List.replicate 40 false)).length)
    ∧ bytesOfBits [] = [] ∧ bytesOfBits (List.replicate 8 false) = 0 :: []
    ∧ bytesOfBits (bitsOf [3]) = 3 :: [] ∧ bytesOfBits (bitsOf shortest) = shortest ∧ bytesOfBits (bitsOf longest) = longest
    ∧ (0x04 : Byte).toNat = [(0 : Byte)].length + 3 ∧ (0x27 : Byte).toNat = (List.replicate 36 (0 : Byte)).length + 3
    ∧ ({ awake 0 0 with link := Link.initial .awaitRise } : State).link.window = .awaitRise := by decide +kernel

/-- A length byte of 3 is no good frame, whatever follows. -/
theorem witness_WindowCloseFollowsTheSteps_bad : ¬ ∃ (tag code : Byte) (payload : List Byte), 4 ≤ (3 : Byte).toNat
    ∧ (3 : Byte).toNat ≤ 39 ∧ ([] : List Byte).length = (3 : Byte).toNat
    ∧ ([] : List Byte) = tag :: code :: payload ++ [crc8 (tag :: code :: payload)] := by
  rintro ⟨_, _, _, h, -⟩
  exact absurd h (by decide)

theorem witness_BytesAndCrcAreBitSerial : (List.replicate 7 true).length < 8 ∧ ([] : List Bool).length < 8 := by decide

/-- UNKNOWN_REQUEST's clause asks only that the link accepts; the first and the last code that name a request. -/
theorem witness_UnknownCodesAreAnsweredUnknown : (awake 0 0).accepts
    ∧ (1 ≤ (0x11 : Byte).toNat % 16 ∧ (0x11 : Byte).toNat % 16 ≤ 2)
    ∧ (1 ≤ (0xA2 : Byte).toNat % 16 ∧ (0xA2 : Byte).toNat % 16 ≤ 2) := ⟨accepts_awake 0 0, by decide, by decide⟩

theorem witness_IdentAnswersThreeBytes : (awake 0 0).accepts ∧ sweeping.accepts :=
  ⟨accepts_awake 0 0, rfl, rfl, by decide +kernel⟩

/-- An ARM and an AMEND with every item at the top of its range. -/
def topArm : Instr := .arm 255 (.fits
  { start := .parked, form := .absolute, value := some 0xFFFFFFFF
    items := { domain := .position, direction := some .rev, kind := .burst, channel := some 15, width := none,
               burst := some { high := 255, low := 255, cycles := 65535 }, priority := 3,
               rep := some { interval := 2 ^ 32 - 1, run := some (.counted 65535) }, keep := true, miss := .hold }
    group := some 15 })
def topBody : AmendBody :=
  { due := some (.absolute, 0xFFFFFFFF), width := some 65535, burst := some { high := 255, low := 255, cycles := 65535 },
    priority := some 3, rep := some (.set { interval := 2 ^ 32 - 1, run := some .endless }), keep := some true,
    miss := some .hold, group := some 15, namesFixed := true }
def topAmend : Instr := .amend 255 (.fits { handle := { slot := 255, gen := 255 }, body := .fits topBody })

/-- The record bytes of the ARM of `test_arm_record_bytes`, armed 100 counts ahead, each byte as Table 11-2 gives it. -/
theorem witness_RequestsDecodeAsEncoded_arm :
    let a : ArmItems :=
      { start := .armed, form := .absolute, value := some 4100
        items := { domain := .position, direction := some .rev, kind := .pulse, channel := some 4, width := some 300,
                   burst := none, priority := 2, rep := some { interval := 5, run := some (.counted 6) },
                   keep := true, miss := .hold }
        group := some 9 }
    a.Meets ∧ ArmLaid a [0xFA, 0x33, 0x94, 0, 0, 0x10, 0x04, 0, 0, 0, 5, 0, 6, 0x01, 0x2C, 0, 0] := by
  refine ⟨⟨⟨by decide, by decide, fun _ => ⟨4, rfl, by decide⟩, fun _ => ⟨300, rfl, by decide, by decide⟩, by decide, nofun,
    by decide, by decide, ?_⟩, by decide, nofun, ?_, nofun⟩, ?_⟩
  · rintro x hx
    cases hx
    exact ⟨by decide, by decide, .inr ⟨6, by decide, rfl⟩⟩
  · rintro g hg
    cases hg
    decide
  · refine ⟨by decide, by decide, by decide, by decide, by decide, by decide, by decide, by decide, by decide, by decide,
      by decide, by decide, by decide, ?_, by decide, by decide, by decide⟩
    rintro v hv
    cases hv
    decide

/-- `topBody` with the fixed items unselected, and without its width, whose bytes its burst shares: selection 00FDh, and the
record bytes that hold the items selected; bits of no item selected stand at 1. A body that removes the repeat: 0010h. -/
theorem witness_RequestsDecodeAsEncoded_amend :
    let top : AmendBody := { topBody with width := none, namesFixed := false }
    let off : AmendBody := { due := none, width := none, burst := none, priority := none, rep := some .remove, keep := none,
                             miss := none, group := none, namesFixed := false }
    AmendLaid top 0x00FD [0xFF, 0x5F, 0xFF, 0xFF, 0xFF, 0xFF, 0xFF, 0xFF, 0xFF, 0xFF, 0xFF, 0, 0, 0xFF, 0xFF, 0xFF, 0xFF]
    ∧ AmendLaid off 0x0010 [0xFF, 0x9F, 0xFF, 0xFF, 0xFF, 0xFF, 0xFF, 0, 0, 0, 0, 0, 0, 0xFF, 0xFF, 0xFF, 0xFF]
    ∧ (0xE000 : BitVec 16).extractLsb' 13 3 ≠ 0 := by
  refine ⟨⟨rfl, by decide, by decide, by decide, ?_, nofun, ?_, ?_, nofun, ?_, ?_, ?_, ?_⟩,
    ⟨rfl, by decide, by decide, by decide, nofun, nofun, nofun, nofun, fun _ => by decide, nofun, nofun, nofun, nofun⟩,
    by decide⟩
  · rintro f v h
    cases h
    decide
  · rintro x h
    cases h
    decide
  · rintro q h
    cases h
    decide
  · rintro x h
    cases h
    exact ⟨by decide, by decide, .inr ⟨rfl, by decide, by decide⟩⟩
  · rintro k h
    cases h
    decide
  · rintro m h
    cases h
    decide
  · rintro g h
    cases h
    decide

theorem witness_RequestsDecodeAsEncoded :
    topArm.wf = true ∧ (encodeRequest topArm).isSome = true ∧ topAmend.wf = true ∧ (encodeRequest topAmend).isSome = true
    ∧ (bindOf 5 plain).wf = true ∧ (encodeRequest (bindOf 5 plain)).isSome = true := by decide +kernel

theorem witness_StepImagesReadBackAsWritten :
    let y : SpawnStep := { what := { pulseRec.what with rep := some { interval := 2 ^ 30, remaining := some 65535 } },
                           offset := 2 ^ 30 }
    [y, y, y, y].length ≤ 4 ∧ y.what.InRange ∧ 1 ≤ y.offset ∧ y.offset ≤ Config.horizon y.what.base.domain := by
  refine ⟨by decide, ⟨⟨by decide, by decide⟩, ?_⟩, by decide, by decide⟩
  rintro x hx
  cases hx
  exact ⟨by decide, by decide, by rintro n hn; cases hn; decide⟩

/-- A grain at its beginning and a whole one; a pulse in flight; no TIME record at TB-T and no pulse at its end. -/
theorem witness_GrainTickAdvancesAndCounts :
    (awake 7 0).rstn = .high ∧ (late (awake 7 0)).restOfGrain.settleTick.time.running = true
    ∧ ((awake 7 0).time.grainPhase ≤ (awake 7 0).time.divisor ∧ (late (awake 7 0)).time.grainPhase = 16)
    ∧ (((chan 3 (.pulse 1 { slot := 0, gen := 0 } 65535) .high (late (awake 7 0))).restOfGrain.settleTick).channels[3]).state =
        .pulse 1 { slot := 0, gen := 0 } 65535 := by decide +kernel

theorem witness_GrainTickAdvancesAndCounts_settled :
    let w := (late (put 3 pulseRec (awake 7 0))).restOfGrain
    (∀ i r due, w.table.recordAt i = some r → r.phase = .armed due → r.what.base = .time → due ≠ w.time.tbT)
    ∧ ∀ (c : ChannelIx) q h, (w.channels[c]).state ≠ .pulse q h 0 := by
  intro w
  constructor
  · rintro i r due h hp -
    obtain ⟨-, rfl⟩ := put_only (t := 7) (p := 0) h
    cases hp
    show ¬ (100 : Word) = 7
    decide
  · intro c q h e
    have : ∀ c : ChannelIx, (w.channels[c]).state = .rest := by
      show ∀ c : ChannelIx, ((put 3 pulseRec (awake 7 0)).channels[c]).state = .rest
      decide +kernel
    rw [this c] at e
    cases e

/-- Every number of `put i r` over an awake part is in range where the record's are. -/
theorem ranges_put {i : SlotIx} {r : ActionRecord} {t p : Word} (hr : r.InRange) : RangesKept (put i r (awake t p)) where
  records j q h := by obtain ⟨-, rfl⟩ := put_only h; exact hr
  reserve := show 8 ≤ 64 by decide
  lowThreshold := show 16 ≤ 127 by decide
  swept := nofun
  divisor := ⟨show 1 ≤ 16 by decide, show 16 ≤ 4096 by decide⟩
  grain := Nat.zero_le _
  channels c := by
    have h : ∀ c : ChannelIx, (put i r (awake t p)).channels[c] = { Channel.initial with state := .rest } := by
      show ∀ c : ChannelIx, (State.reset.channels.map Channel.leaveSafe)[c] = _
      decide +kernel
    rw [h c]
    exact ⟨trivial, by decide, by decide, by decide⟩
  senses n := by
    have h : ∀ n : SenseIx, (put i r (awake t p)).senses[n] = SenseInput.initial .low := by
      show ∀ n : SenseIx, State.reset.senses[n] = _
      decide +kernel
    rw [h n]
    exact ⟨.inl rfl, by decide, by decide, by rintro e ⟨⟩⟩
  bindings b := by
    have h : ∀ b : BindingIx, (put i r (awake t p)).bindings[b] = Binding.initial := by
      show ∀ b : BindingIx, State.reset.bindings[b] = _
      decide +kernel
    rw [h b]
    exact ⟨by decide, nofun, by rintro ⟨⟩, by decide, by decide, by decide⟩
  causes k := by
    have h : ∀ k : Fin 11, ((put i r (awake t p)).attention.causes[k]).count ≤ 255 := by
      show ∀ k : Fin 11, (State.reset.attention.causes[k]).count ≤ 255
      decide +kernel
    exact h k

theorem pulseRec_inRange : pulseRec.InRange :=
  ⟨⟨⟨by decide, by decide⟩, nofun⟩, nofun, nofun, nofun, by decide⟩

/-- A record that stands at TB-T before the settling; `awake_not_due` has a state in which nothing is due. -/
theorem witness_SettlingLeavesNothingDue :
    (awake 0 0).rstn = .high ∧ RangesKept (put 3 pulseRec (awake 100 0)) ∧ (put 3 pulseRec (awake 100 0)).table.recordAt 3 = some pulseRec
    ∧ pulseRec.phase = .armed 100 ∧ pulseRec.what.base = .time :=
  ⟨rfl, ranges_put pulseRec_inRange, by decide +kernel, rfl, rfl⟩

/-- An awake part with the encoder's reference pair as given. -/
def referred (a b : Level) : State :=
  { awake 0 5 with time := { (awake 0 5).time with encA := a, encB := b } }

theorem witness_EncoderStepMovesTbP : (awake 0 0).rstn = .high
    ∧ ((referred .low .low).settleStep.time.encA, (referred .low .low).settleStep.time.encB) = (.low, .low)
    ∧ ((referred .high .low).settleStep.time.encA, (referred .high .low).settleStep.time.encB) = (.high, .low)
    ∧ ((referred .high .high).settleStep.time.encA, (referred .high .high).settleStep.time.encB) = (.high, .high)
    ∧ ((referred .low .high).settleStep.time.encA, (referred .low .high).settleStep.time.encB) = (.low, .high) := by
  decide +kernel

/-- A POSITION record 95 counts ahead stands at no TB-P. -/
theorem witness_EncoderStepMovesTbP_settled :
    ∀ i r e due, (put 3 positionRec (awake 0 5)).table.recordAt i = some r → r.phase = .armed due →
      r.what.base = .position e → (put 3 positionRec (awake 0 5)).time.lastDir = some e →
      due ≠ (put 3 positionRec (awake 0 5)).time.tbP := by
  rintro i r e due h hp - -
  obtain ⟨-, rfl⟩ := put_only h
  cases hp
  decide

/-- Homing ARMED at home value 9. -/
def homingAt (s : State) : State := { s with time := { s.time with homing := true, homeValue := 9 } }

theorem witness_EncoderFaultsAndIndexEdges :
    (awake 0 0).rstn = .high ∧ (awake 0 0).time.homing = false ∧ (homingAt (awake 0 0)).time.homing = true
    ∧ (homingAt (awake 0 0)).rstn = .high := by decide +kernel

theorem awake_waits_not (t p : Word) (d : Domain) : ¬ (awake t p).hasWaiting d := by
  rintro ⟨i, r, due, h, -⟩
  rw [awake_free] at h
  cases h

theorem witness_TimebaseItemsAreSet :
    (put 3 pulseRec (awake 0 0)).accepts ∧ (put 3 pulseRec (awake 0 0)).hasWaiting .time
    ∧ (put 3 positionRec (awake 0 0)).accepts ∧ (put 3 positionRec (awake 0 0)).hasWaiting .position
    ∧ (homingAt (awake 0 0)).time.homing = true
    ∧ (awake 0 0).accepts ∧ ¬ (awake 0 0).hasWaiting .time ∧ ¬ (awake 0 0).hasWaiting .position
    ∧ (awake 0 0).time.homing = false :=
  ⟨accepts_put _ _ _ _, ⟨3, pulseRec, 100, by decide +kernel, rfl, .inl rfl⟩, accepts_put _ _ _ _,
    ⟨3, positionRec, 100, by decide +kernel, rfl, .inl rfl⟩, rfl, accepts_awake 0 0, awake_waits_not 0 0 _,
    awake_waits_not 0 0 _, rfl⟩

theorem witness_TimebaseReadsChangeNothing : (homingAt (awake 0 0)).accepts := accepts_awake 0 0

/-- TB-T STOPPED. -/
def stopped (s : State) : State := { s with time := { s.time with running := false } }

/-- Divisors 0 and 4097 are out of range, 1 and 4096 in it; a pulse in flight, a waiting record, and neither. -/
theorem witness_SetGrainChecksInOrder :
    (0 = 0 ∨ 4096 < 0) ∧ (4097 = 0 ∨ 4096 < 4097) ∧ (1 ≤ 1 ∧ 1 ≤ 4096) ∧ (1 ≤ 4096 ∧ 4096 ≤ 4096)
    ∧ (awake 0 0).time.running = true ∧ (stopped (awake 0 0)).accepts ∧ (stopped (awake 0 0)).time.running = false
    ∧ (∃ (c : ChannelIx) (q : Fin 4) (h : Handle) (g : Nat),
        ((chan 3 (.pulse 1 { slot := 0, gen := 0 } 1) .high (stopped (awake 0 0))).channels[c]).state = .pulse q h g)
    ∧ (stopped (put 3 pulseRec (awake 0 0))).hasWaiting .time
    ∧ ¬ ((∃ (c : ChannelIx) (q : Fin 4) (h : Handle) (g : Nat),
        ((stopped (awake 0 0)).channels[c]).state = .pulse q h g) ∨ (stopped (awake 0 0)).hasWaiting .time) := by
  refine ⟨by decide, by decide, by decide, by decide, rfl, accepts_awake 0 0, rfl,
    ⟨3, 1, { slot := 0, gen := 0 }, 1, by decide +kernel⟩, ⟨3, pulseRec, 100, by decide +kernel, rfl, .inl rfl⟩, ?_⟩
  rintro (⟨c, q, h, g, e⟩ | h)
  · have : ∀ c : ChannelIx, ((stopped (awake 0 0)).channels[c]).state = .rest := by decide +kernel
    rw [this c] at e
    cases e
  · exact awake_waits_not 0 0 .time h

/-- The four records due at one advance (section "Example: Four Records Due at One Advance"), those of channel 2. -/
def twoDue : State :=
  put 3 (rec .time (.onChannel 2 (.pulse 80)) (.armed 20000))
    (put 7 (rec .time (.onChannel 2 (.pulse 50)) (.armed 20000)) (awake 20000 0))

theorem witness_ChannelClaimTakesTieOrder :
    twoDue.rstn = .high ∧ (∀ i, i ∈ ([3, 7] : List SlotIx) ↔ twoDue.dueOn .time 2 i)
    ∧ ([3, 7] : List SlotIx).Pairwise twoDue.firesBefore := by
  refine ⟨rfl, fun i => ⟨fun h => ?_, ?_⟩, ?_⟩
  · simp only [List.mem_cons, List.not_mem_nil, or_false] at h
    obtain rfl | rfl := h
    · exact ⟨rec .time (.onChannel 2 (.pulse 80)) (.armed 20000), 20000, .pulse 80, by decide +kernel, rfl, rfl, rfl, rfl⟩
    · exact ⟨rec .time (.onChannel 2 (.pulse 50)) (.armed 20000), 20000, .pulse 50, by decide +kernel, rfl, rfl, rfl, rfl⟩
  · rintro ⟨r, -, -, h, -⟩
    simp only [twoDue, put_recordAt, awake_free] at h
    split at h
    · next e => simp [← e]
    · split at h
      · next e => simp [← e]
      · cases h
  · refine List.pairwise_pair.2 ⟨rec .time (.onChannel 2 (.pulse 80)) (.armed 20000),
      rec .time (.onChannel 2 (.pulse 50)) (.armed 20000), by decide +kernel, by decide +kernel, .inr ⟨rfl, by decide⟩⟩

theorem witness_MarkClaimRaisesMark :
    (put 3 markRec (awake 100 0)).rstn = .high ∧ (put 3 markRec (awake 100 0)).table.recordAt 3 = some markRec
    ∧ markRec.phase = .armed 100 ∧ markRec.what.work = .mark
    ∧ (put 3 markRec (awake 100 0)).time.reached markRec.what.base 100
    ∧ ¬ (put 3 markRec (awake 99 0)).time.reached markRec.what.base 100 := by
  refine ⟨rfl, by decide +kernel, rfl, rfl, rfl, ?_⟩
  show ¬ ((100 : Word) = 99)
  decide

/-- The part quiesced by its latch. -/
def quietPart (s : State) : State := { s with quiesce := { latch := true, mirror := .high } }

/-- A HOLD record like `pulseRec`. -/
def holdRec : ActionRecord := { pulseRec with what := { pulseRec.what with miss := .hold } }

/-- The firing of `pulseRec` from slot 3 at a channel in REST, in a merging pulse, and in a burst of its own priority. -/
theorem witness_FallingDueTakesItsBranch :
    let f : Firing := { action := .pulse 200, priority := 1, handle := { slot := 3, gen := 0 } }
    let busy := chan 5 (.burst 1 { slot := 9, gen := 0 } .high 1 1 1 1) .high (put 3 pulseRec (awake 100 0))
    let merging : Channel :=
      { Channel.initial with state := .pulse 3 { slot := 9, gen := 0 } 1, line := .high, policy := .merge }
    ((put 3 pulseRec (awake 100 0)).table.recordAt 3 = some pulseRec ∧ pulseRec.phase = .armed 100
      ∧ pulseRec.what.work = .onChannel 5 (.pulse 200))
    ∧ (put 3 pulseRec (awake 100 0)).quiesced = false
    ∧ (((put 3 pulseRec (awake 100 0)).channels[5]).take f).2 = .fired
    ∧ (merging.take f).2 = .merged ∧ ((busy.channels[5]).take f).2 = .conflict ∧ busy.quiesced = false
    ∧ busy.counting (.pulse 200) = .pulse 200 ∧ (late busy).counting (.pulse 200) = .pulse 201
    ∧ (quietPart (put 3 pulseRec (awake 100 0))).quiesced = true ∧ pulseRec.what.miss = .drop
    ∧ holdRec.what.miss = .hold := by decide +kernel

theorem witness_RecordRepeatsOrEnds :
    let r (n : Option Nat) : ActionRecord :=
      { pulseRec with what := { pulseRec.what with rep := some { interval := 5, remaining := n } } }
    pulseRec.what.rep = none ∧ (r (some 0)).what.rep = some { interval := 5, remaining := some 0 }
    ∧ (r (some 65535)).what.rep = some { interval := 5, remaining := some (65534 + 1) }
    ∧ (r none).what.rep = some { interval := 5, remaining := none }
    ∧ pulseRec.what.keep = false ∧ ({ pulseRec.what with keep := true } : Template).keep = true := by decide

/-- Steady channels, a PULSE and a BURST in flight, and firings of equal and of higher priority. -/
theorem witness_ChannelTakesEveryFiring :
    let h : Handle := { slot := 0, gen := 0 }
    let f (a : ChanAction) (p : Fin 4) : Firing := { action := a, priority := p, handle := h }
    let pulsing := { Channel.initial with state := .pulse 1 h 5, policy := .merge }
    let bursting := { Channel.initial with state := .burst 1 h .low 1 1 1 1 }
    Channel.initial.toRest.state = .rest ∧ Channel.initial.toAsserted.state = .asserted
    ∧ (f .assert 1).action = .assert ∧ (f .release 1).action = .release ∧ (f .toggle 1).action = .toggle
    ∧ (f (.pulse 1) 1).action = .pulse 1 ∧ (f (.burst ⟨1, 1, 1⟩) 1).action = .burst ⟨1, 1, 1⟩
    ∧ pulsing.policy = .merge ∧ pulsing.state = .pulse 1 h 5 ∧ bursting.state = .burst 1 h .low 1 1 1 1
    ∧ bursting.policy ≠ .merge ∧ (1 : Fin 4) < (f .assert 2).priority ∧ (f .assert 1).priority ≤ (1 : Fin 4) := by decide

theorem witness_ChannelTakesEveryFiring_wholeGrain :
    1 ≤ (late (awake 0 0)).time.divisor ∧ (late (awake 0 0)).time.divisor ≤ (late (awake 0 0)).time.grainPhase := by
  decide +kernel

theorem witness_ActionsInFlightEnd :
    let h : Handle := { slot := 0, gen := 0 }
    (awake 0 0).rstn = .high
    ∧ ((chan 3 (.pulse 1 h 0) .high (awake 0 0)).channels[3]).state = .pulse 1 h 0
    ∧ ((chan 3 (.pulse 1 h 1) .high (awake 0 0)).channels[3]).state = .pulse 1 h 1
    ∧ ((chan 3 (.burst 1 h .high 0 2 8 9) .high (awake 0 0)).channels[3]).state = .burst 1 h .high 0 2 8 9
    ∧ ((chan 3 (.burst 1 h .low 0 2 8 9) .low (awake 0 0)).channels[3]).state = .burst 1 h .low 0 2 8 9
    ∧ ((chan 3 (.burst 1 h .low 0 1 8 9) .low (awake 0 0)).channels[3]).state = .burst 1 h .low 0 1 8 9
    ∧ ((chan 3 (.burst 1 h .low 0 1 8 9) .low (awake 0 0)).channels[3]).line =
        ((chan 3 (.burst 1 h .low 0 1 8 9) .low (awake 0 0)).channels[3]).rest
    ∧ ((awake 0 0).channels[3]).state = .rest := by decide +kernel

theorem witness_ActionsInFlightEnd_agrees :
    ((chan 3 (.burst 1 { slot := 0, gen := 0 } .low 0 1 8 9) .low (awake 0 0)).channels[3]).lineAgrees := by
  rw [Channel.lineAgrees, show ((chan 3 (.burst 1 { slot := 0, gen := 0 } .low 0 1 8 9) .low (awake 0 0)).channels[3]).state =
    .burst 1 { slot := 0, gen := 0 } .low 0 1 8 9 by decide +kernel]
  decide +kernel

/-- Channel numbers 15 and 16; a channel in flight, one locked, and one that is neither. -/
theorem witness_ChanConfigAndChanRead :
    (awake 0 0).accepts ∧ 15 < 16 ∧ (15 : Nat) = (15 : ChannelIx).val
    ∧ ((chan 5 (.pulse 1 { slot := 0, gen := 0 } 1) .high (awake 0 0)).channels[5]).state =
        .pulse 1 { slot := 0, gen := 0 } 1
    ∧ (put 3 pulseRec (awake 0 0)).locked 5 ∧ ((awake 0 0).channels[5]).state = .rest ∧ ¬ (awake 0 0).locked 5 := by
  refine ⟨accepts_awake 0 0, by decide, rfl, by decide +kernel, ⟨3, pulseRec, .pulse 200, by decide +kernel, rfl, rfl⟩,
    by decide +kernel, ?_⟩
  rintro ⟨i, r, a, h, -⟩
  rw [awake_free] at h
  cases h

theorem plain_meets : plain.Meets :=
  ⟨by decide, by decide, fun _ => ⟨1, rfl, by decide⟩, nofun, by decide, nofun, by decide, by decide, nofun⟩

/-- A PULSE, a BURST and a MARK, each with its values at the top of their ranges. -/
theorem witness_RecordItemsAreJudged :
    ({ plain with kind := .pulse, width := some 65535, channel := some 15 } : RecordItems).Meets
    ∧ ({ plain with kind := .burst, burst := some ⟨255, 255, 4095⟩, priority := 3 } : RecordItems).Meets
    ∧ ({ plain with
        domain := .position, direction := some .rev, kind := .mark, channel := none
        rep := some { interval := 2 ^ 23, run := some (.counted 65535) } } : RecordItems).Meets
    ∧ (1 ≤ 2 ^ 30 ∧ 2 ^ 30 ≤ Config.horizon .time) ∧ 1 ≤ 2 ^ 23 ∧ 2 ^ 23 ≤ Config.horizon .position := by
  refine ⟨?_, ?_, ?_, by decide, by decide, by decide⟩
  · exact ⟨by decide, by decide, fun _ => ⟨15, rfl, by decide⟩, fun _ => ⟨65535, rfl, by decide, by decide⟩, by decide,
      nofun, by decide, by decide, nofun⟩
  · exact ⟨by decide, by decide, fun _ => ⟨1, rfl, by decide⟩, nofun, by decide,
      fun _ => ⟨_, rfl, by decide, by decide, by decide, by decide, by decide, by decide⟩, by decide, by decide, nofun⟩
  · refine ⟨by decide, by decide, by decide, nofun, by decide, nofun, by decide, by decide, ?_⟩
    rintro x hx
    cases hx
    exact ⟨by decide, by decide, .inr ⟨65535, by decide, rfl⟩⟩

/-- An ARM of `plain`, armed or parked, with a value in a form. -/
def armItems (start : Start) (form : DueForm) (v : Word) (i : RecordItems) : ArmItems :=
  { start := start, form := form, value := some v, items := i, group := some 4 }

theorem armItems_meets (start : Start) (v : Word) (i : RecordItems) (hi : i.Meets) (h1 : 1 ≤ v.toNat)
    (h2 : v.toNat ≤ Config.horizon i.domain) : (armItems start .offset v i).Meets where
  items := hi
  value := by simp [armItems]
  offset := by rintro - w hw; cases hw; exact ⟨h1, h2⟩
  group := by rintro g hg; cases hg; decide
  parked := fun _ => ⟨rfl, by simp [armItems]⟩

/-- A part whose every slot holds a record. -/
def fullPart : State :=
  { awake 0 0 with table := { State.reset.table with
      slots := Vector.replicate 128 { gen := 0, content := some markRec, awaiting := false } } }

/-- POSITION items like `plain`. -/
def plainP : RecordItems := { plain with domain := .position, direction := some .fwd }

theorem plainP_meets : plainP.Meets :=
  ⟨by decide, by decide, fun _ => ⟨1, rfl, by decide⟩, nofun, by decide, nofun, by decide, by decide, nofun⟩

/-- ABSOLUTE values at TB-T and one beyond the horizon do not lie ahead; those at 1 and at the horizon do. -/
theorem witness_ArmChecksThenTakesTheLowestSlot :
    (armItems .armed .offset 1 plain).Meets ∧ (armItems .parked .offset 0x40000000 plain).Meets
    ∧ (armItems .armed .offset 0x800000 plainP).Meets ∧ ¬ (armItems .armed .offset 0 plain).Meets
    ∧ ((awake 100 0).ahead .time 100 = 0 ∧ (awake 100 0).ahead .time 0x40000065 = 2 ^ 30 + 1
      ∧ (awake 100 0).ahead .time 101 = 1 ∧ (awake 100 0).ahead .time 0x40000064 = 2 ^ 30)
    ∧ ((homingAt (awake 0 0)).accepts ∧ (homingAt (awake 0 0)).time.homing = true)
    ∧ (sweeping.accepts ∧ ¬ sweeping.normal)
    ∧ (fullPart.accepts ∧ fullPart.normal ∧ ∀ i, fullPart.table.recordAt i ≠ none)
    ∧ (put 0 markRec (awake 0 0)).normal ∧ (put 0 markRec (awake 0 0)).lowestFree 1 := by
  refine ⟨armItems_meets _ _ _ plain_meets (by decide) (by decide), armItems_meets _ _ _ plain_meets (by decide) (by decide),
    armItems_meets _ _ _ plainP_meets (by decide) (by decide), ?_, by decide +kernel, ⟨accepts_awake 0 0, rfl⟩,
    ⟨⟨rfl, rfl, by decide +kernel⟩, ?_⟩, ⟨accepts_awake 0 0, rfl, by decide +kernel⟩, rfl, by decide +kernel, ?_⟩
  · intro h
    exact absurd (h.offset rfl 0 rfl).1 (by decide)
  · exact Option.some_ne_none 0
  · intro j hj
    obtain rfl : j = 0 := by revert hj; revert j; decide
    decide +kernel

/-- Slot byte 128 and 127; the sweep; a FREE slot. -/
theorem witness_HandleChecksComeFirst :
    (awake 0 0).accepts
    ∧ Instr.retire 1 (.fits (handle 3)) ∈ [Instr.retire 1 (.fits (handle 3)), .peek 1 (.fits (handle 3)),
        .collect 1 (.fits (some (handle 3))), .amend 1 (.fits { handle := handle 3, body := .unfit })]
    ∧ 127 < (handle 128).slot.toNat ∧ (handle 127).slot.toNat ≤ 127 ∧ sweeping.accepts ∧ ¬ sweeping.normal
    ∧ (awake 0 0).normal ∧ ∀ i r, ¬ (awake 0 0).names (handle 127) i r := by
  refine ⟨accepts_awake 0 0, List.mem_cons_self, by decide, by decide, ⟨rfl, rfl, by decide +kernel⟩,
    Option.some_ne_none 0, rfl, ?_⟩
  rintro i r ⟨-, h, -⟩
  rw [awake_free] at h
  cases h

theorem names_put (r : ActionRecord) (t p : Word) : (put 3 r (awake t p)).names (handle 3) 3 r :=
  ⟨rfl, by rw [put_recordAt, if_pos rfl], by
    have : ∀ i : SlotIx, (State.reset.table.slot i).gen = 0 := by decide +kernel
    show (((State.reset.table.write 3 r).slot 3).gen) = 0
    rw [ActionTable.slot_write, if_pos rfl]
    exact this 3⟩

/-- An AMEND of the priority, one of the group, and ABSOLUTE dues at the edges of the horizon. -/
theorem witness_AmendChecksThenReplaces :
    (put 3 pulseRec (awake 0 0)).accepts ∧ (put 3 pulseRec (awake 0 0)).normal
    ∧ (put 3 pulseRec (awake 0 0)).names (handle 3) 3 pulseRec
    ∧ (put 3 doneRec (awake 0 0)).names (handle 3) 3 doneRec ∧ doneRec.phase = .done (some 5) .completed
    ∧ (∀ due why, pulseRec.phase ≠ .done due why) ∧ ¬ noChange.Meets pulseRec
    ∧ ({ noChange with priority := some 3 } : AmendBody).Meets pulseRec
    ∧ ({ noChange with group := some 15 } : AmendBody).Meets pulseRec ∧ (∀ n, pulseRec.phase ≠ .parked n)
    ∧ (put 3 parkedRec (awake 0 0)).names (handle 3) 3 parkedRec ∧ parkedRec.phase = .parked 7
    ∧ ({ noChange with group := some 1 } : AmendBody).Meets parkedRec
    ∧ ({ noChange with due := some (.absolute, 0) } : AmendBody).Meets pulseRec
    ∧ ({ noChange with due := some (.absolute, 0x40000000) } : AmendBody).Meets pulseRec
    ∧ (put 3 pulseRec (awake 0 0)).ahead pulseRec.what.base 0 = 0
    ∧ (put 3 pulseRec (awake 0 0)).ahead pulseRec.what.base 0x40000000 = 2 ^ 30 := by
  refine ⟨accepts_put _ _ _ _, rfl, names_put _ _ _, names_put _ _ _, rfl, nofun, ?_, ?_, ?_, nofun, names_put _ _ _, rfl,
    ?_, ?_, ?_, by decide +kernel, by decide +kernel⟩
  · intro h
    have := h.some_item
    simp [noChange] at this
  · exact ⟨by simp, rfl, nofun, nofun, nofun, nofun, by rintro p hp; cases hp; decide, nofun, nofun, nofun⟩
  · exact ⟨by simp, rfl, nofun, nofun, nofun, nofun, nofun, nofun, by rintro g hg; cases hg; decide, nofun⟩
  · exact ⟨by simp, rfl, nofun, nofun, nofun, nofun, nofun, nofun, by rintro g hg; cases hg; decide, nofun⟩
  · exact ⟨by simp, rfl, nofun, nofun, nofun, nofun, nofun, nofun, nofun, nofun⟩
  · exact ⟨by simp, rfl, nofun, nofun, nofun, nofun, nofun, nofun, nofun, nofun⟩

/-! #### States with several records -/

/-- What `CollectionsExact` says, in a form that evaluates. -/
theorem collections_of {s : State} (h : s.table.suspended.Nodup ∧ s.table.doneList.Nodup
    ∧ ∀ i, (i ∈ s.table.suspended ↔ (s.table.recordAt i).any (·.phase.isSuspended) = true)
      ∧ (i ∈ s.table.doneList ↔ (s.table.recordAt i).any (·.phase.isDone) = true)) : CollectionsExact s :=
  ⟨h.1, h.2.1, fun i => ((h.2.2 i).1).trans exists_record.symm, fun i => ((h.2.2 i).2).trans exists_record.symm⟩

/-- A SUSPENDED record of channel 5, and an ARMED one that binding 0 spawned. -/
def suspendedRec : ActionRecord := { rec .time (.onChannel 5 (.pulse 200)) (.suspended 11500) with group := some 4 }
def spawnedRec : ActionRecord := { rec .time .mark (.armed 15000) with origin := .binding 0 65535 }

/-- A quiesced part at TB-T 14200 with homing ARMED, its table holding a SUSPENDED, a DONE, a PARKED and a spawned ARMED
record, and a happening waiting. -/
def four : State :=
  let s := put 0 suspendedRec (put 1 doneRec (put 2 parkedRec (put 3 spawnedRec State.reset)))
  let s := { s with
    table := { s.table with suspended := [0], doneList := [1] }
    time := { (awake 14200 0).time with homing := true, homeValue := 9 }
    bindings := s.bindings.set 0 { s.bindings[0] with live := 1 }
    pending := [.quiescenRisingEdge] }
  { s with attention := s.attention.report .donePending true }

theorem four_recordAt (i : SlotIx) : four.table.recordAt i =
    if 0 = i then some suspendedRec else if 1 = i then some doneRec else if 2 = i then some parkedRec
    else if 3 = i then some spawnedRec else none := by
  show (put 0 suspendedRec (put 1 doneRec (put 2 parkedRec (put 3 spawnedRec State.reset)))).table.recordAt i = _
  simp only [put_recordAt, free_everywhere]

theorem four_cases {p : ActionRecord → Prop} (h0 : p suspendedRec) (h1 : p doneRec) (h2 : p parkedRec) (h3 : p spawnedRec)
    (i : SlotIx) (r : ActionRecord) (h : four.table.recordAt i = some r) : p r := by
  rw [four_recordAt] at h
  repeat' split at h
  all_goals cases h
  all_goals assumption

theorem four_steps : ∃ t, step four = .next t := ⟨_, rfl⟩
theorem four_collections : CollectionsExact four := collections_of (by decide +kernel)
theorem four_groups : GroupsConsistent four := by
  constructor
  · exact four_cases nofun nofun (fun _ => ⟨rfl, nofun⟩) nofun
  · exact four_cases (fun h => absurd rfl h) (fun h => absurd rfl h) (fun h => absurd rfl h) (fun _ => rfl)

theorem four_quiesce : QuiesceInvariant four where
  collections := four_collections
  firings := four_cases (fun _ => nofun) nofun nofun nofun
  quiesce := ⟨nofun, fun _ => by decide +kernel, nofun⟩

theorem four_ranges : RangesKept four where
  records := four_cases
    ⟨⟨⟨by decide, by decide⟩, nofun⟩, nofun, by rintro g hg; cases hg; decide, nofun, by decide⟩
    ⟨⟨trivial, nofun⟩, nofun, nofun, nofun, by decide⟩
    ⟨⟨trivial, nofun⟩, by rintro n hn; cases hn; decide, by rintro g hg; cases hg; decide, nofun, by decide⟩
    ⟨⟨trivial, nofun⟩, nofun, nofun, by rintro b n hn; cases hn; decide, by decide⟩
  reserve := by decide +kernel
  lowThreshold := by decide +kernel
  swept := nofun
  divisor := by decide +kernel
  grain := by decide +kernel
  channels c := by
    have h : ∀ c : ChannelIx, four.channels[c] = Channel.initial := by decide +kernel
    rw [h c]
    exact ⟨trivial, by decide, by decide, by decide⟩
  senses n := by
    have h : ∀ n : SenseIx, four.senses[n] = SenseInput.initial .low := by decide +kernel
    rw [h n]
    exact ⟨.inl rfl, by decide, by decide, by rintro e ⟨⟩⟩
  bindings b := by
    have h : ∀ b : BindingIx, four.bindings[b] = { Binding.initial with live := (four.bindings[b]).live } := by
      decide +kernel
    have hl : ∀ b : BindingIx, (four.bindings[b]).live ≤ 128 := by decide +kernel
    rw [h b]
    exact ⟨Nat.zero_le _, nofun, by rintro ⟨⟩, Nat.zero_le _, hl b, Nat.zero_le _⟩
  causes := by decide +kernel

theorem witness_RetireAndCollectEndOneRecord :
    let kept : ActionRecord := { pulseRec with what := { pulseRec.what with keep := true } }
    ((put 3 pulseRec (awake 0 0)).accepts ∧ (put 3 pulseRec (awake 0 0)).normal)
    ∧ ((put 3 doneRec (awake 0 0)).names (handle 3) 3 doneRec ∧ doneRec.phase = .done (some 5) .completed)
    ∧ ((put 3 kept (awake 0 0)).names (handle 3) 3 kept ∧ kept.what.keep = true)
    ∧ ((put 3 pulseRec (awake 0 0)).names (handle 3) 3 pulseRec ∧ pulseRec.what.keep = false
      ∧ ∀ due why, pulseRec.phase ≠ .done due why)
    ∧ (sweeping.accepts ∧ ¬ sweeping.normal) ∧ ((awake 0 0).normal ∧ (awake 0 0).table.doneList = [])
    ∧ (four.accepts ∧ four.normal ∧ four.table.doneList = 1 :: [] ∧ four.table.recordAt 1 = some doneRec) :=
  ⟨⟨accepts_put _ _ _ _, rfl⟩, ⟨names_put _ _ _, rfl⟩, ⟨names_put _ _ _, rfl⟩, ⟨names_put _ _ _, rfl, nofun⟩,
    ⟨⟨rfl, rfl, by decide +kernel⟩, Option.some_ne_none 0⟩, ⟨rfl, rfl⟩, ⟨rfl, rfl, by decide +kernel⟩, rfl, rfl,
    by decide +kernel⟩

/-- Groups 0 and 16 are out of range, 1 and 15 in it; group 4 has a PARKED member in `four`, group 1 none; a POSITION member
while homing is ARMED. -/
theorem witness_GroupRequestsTakeEveryMember :
    let member (s : State) (g : Nat) (i : SlotIx) : Bool :=
      (s.table.recordAt i).any (fun r => r.phase.isParked && r.group == some g)
    let far : ActionRecord := { positionRec with phase := .parked 7, group := some 15 }
    let homing := homingAt (put 3 far (awake 0 0))
    (0 = 0 ∨ 15 < 0) ∧ (16 = 0 ∨ 15 < 16) ∧ (1 ≤ 15 ∧ 15 ≤ 15) ∧ (sweeping.accepts ∧ ¬ sweeping.normal)
    ∧ (four.accepts ∧ four.normal ∧ CollectionsExact four ∧ GroupsConsistent four)
    ∧ ((∀ i, member four 1 i = false) ∧ (∃ i, member four 4 i = true)
      ∧ four.table.recordAt 2 = some parkedRec ∧ parkedRec.group = some 4 ∧ parkedRec.phase = .parked 7)
    ∧ (¬ ∃ i r, four.table.recordAt i = some r ∧ member four 4 i = true ∧ r.what.base.domain = .position)
    ∧ homing.time.homing = true ∧ homing.table.recordAt 3 = some far ∧ member homing 15 3 = true
    ∧ far.what.base.domain = .position := by
  refine ⟨by decide, by decide, by decide, ⟨⟨rfl, rfl, by decide +kernel⟩, Option.some_ne_none 0⟩,
    ⟨⟨rfl, rfl, by decide +kernel⟩, rfl, four_collections, four_groups⟩, by decide +kernel, ?_, by decide +kernel⟩
  rintro ⟨i, r, h, -, hp⟩
  exact absurd hp (four_cases (p := fun r => ¬ r.what.base.domain = .position) nofun nofun nofun nofun i r h)

/-- Start slots 127 and 128; nothing at or above the start; a record there. -/
theorem witness_PeekAndScanChangeNothing :
    ((put 3 pulseRec (awake 0 0)).accepts ∧ (put 3 pulseRec (awake 0 0)).normal
      ∧ (put 3 pulseRec (awake 0 0)).names (handle 3) 3 pulseRec)
    ∧ 127 < 128 ∧ (127 : Nat) ≤ 127 ∧ (sweeping.accepts ∧ ¬ sweeping.normal)
    ∧ (∀ i : SlotIx, 127 ≤ i.val → (awake 0 0).table.recordAt i = none)
    ∧ ((0 : Nat) ≤ (3 : SlotIx).val ∧ ∀ j : SlotIx, (0 : Nat) ≤ j.val → j < 3 →
        (put 3 pulseRec (awake 0 0)).table.recordAt j = none) := by
  refine ⟨⟨accepts_put _ _ _ _, rfl, names_put _ _ _⟩, by decide, by decide,
    ⟨⟨rfl, rfl, by decide +kernel⟩, Option.some_ne_none 0⟩, fun i _ => awake_free 0 0 i, by decide, ?_⟩
  intro j _ hj
  rw [put_recordAt, awake_free, if_neg]
  rintro rfl
  exact absurd hj (by decide)

/-- Two ARMED TIME records across the wrap, the one of slot 4 the nearer. -/
def wrapped : State := put 3 (rec .time .mark (.armed 5)) (put 4 (rec .time .mark (.armed 0xFFFFFFF0)) (awake 0xFFFFFF00 0))

theorem witness_NextDueReturnsTheHead :
    (sweeping.accepts ∧ ¬ sweeping.normal)
    ∧ ((awake 0 0).accepts ∧ (awake 0 0).normal ∧ ∀ i r, (awake 0 0).table.recordAt i ≠ some r)
    ∧ (wrapped.accepts ∧ wrapped.normal ∧ wrapped.table.recordAt 4 = some (rec .time .mark (.armed 0xFFFFFFF0)))
    ∧ ∀ j q e, wrapped.table.recordAt j = some q ∧ q.phase = .armed e ∧ q.what.base = .time → wrapped.dueNoLater 4 j := by
  refine ⟨⟨⟨rfl, rfl, by decide +kernel⟩, Option.some_ne_none 0⟩, ⟨accepts_awake 0 0, rfl, ?_⟩,
    ⟨⟨rfl, rfl, by decide +kernel⟩, rfl, by decide +kernel⟩, ?_⟩
  · intro i r h
    rw [awake_free] at h
    cases h
  · rintro j q e ⟨h, hp, -⟩
    refine ⟨_, q, _, e, (show wrapped.table.recordAt 4 = some (rec .time .mark (.armed 0xFFFFFFF0)) by decide +kernel), h, rfl,
      hp, ?_⟩
    rw [wrapped, put_recordAt, put_recordAt, awake_free] at h
    split at h
    · cases h
      cases hp
      exact .inl (by decide +kernel)
    · split at h
      · next hj =>
        subst hj
        cases h
        cases hp
        exact .inr ⟨rfl, .inr ⟨rfl, by decide⟩⟩
      · cases h

theorem witness_TableClearAndSweepEnd :
    (sweeping.accepts ∧ ¬ sweeping.normal) ∧ (four.accepts ∧ four.normal ∧ four.table.lowThreshold ≤ 127)
    ∧ four.rstn = .high ∧ sweeping.rstn = .high ∧ sweeping.table.sweep = some 0 :=
  ⟨⟨⟨rfl, rfl, by decide +kernel⟩, Option.some_ne_none 0⟩, ⟨⟨rfl, rfl, by decide +kernel⟩, rfl, by decide +kernel⟩, rfl, rfl,
    rfl⟩

theorem four_levels : LevelsReported four := ⟨by decide +kernel, by decide +kernel⟩

/-- Reserve 64 and threshold 127 at the top of their ranges, 65 and 128 beyond. -/
theorem witness_SettingsReplaceBothAtOnce :
    (sweeping.accepts ∧ ¬ sweeping.normal) ∧ (four.accepts ∧ four.normal ∧ LevelsReported four)
    ∧ (64 < 65 ∨ 127 < 0) ∧ (64 < 0 ∨ 127 < 128) ∧ 64 ≤ 64 ∧ 127 ≤ 127
    ∧ four.table.reserve ≤ 64 ∧ four.table.lowThreshold ≤ 127 :=
  ⟨⟨⟨rfl, rfl, by decide +kernel⟩, Option.some_ne_none 0⟩, ⟨⟨rfl, rfl, by decide +kernel⟩, rfl, four_levels⟩, by decide,
    by decide, by decide, by decide, by decide +kernel, by decide +kernel⟩

theorem witness_SettingsReadCountsEverySlot :
    (sweeping.accepts ∧ ¬ sweeping.normal) ∧ four.accepts ∧ four.normal ∧ CollectionsExact four :=
  ⟨⟨⟨rfl, rfl, by decide +kernel⟩, Option.some_ne_none 0⟩, ⟨rfl, rfl, by decide +kernel⟩, rfl, four_collections⟩

/-- Input 1 prescales by 2 and ignores edges less than 200 grains apart; input 0 of `awake` is disabled. -/
theorem witness_SenseEdgePassesItsStages :
    let s := chattering 300
    let fresh : State := { s with senses := s.senses.set 1 { s.senses[1] with prescaleCount := 0 } }
    s.rstn = .high ∧ .low = (s.senses[1]).lineRef ∧ Level.high ≠ (s.senses[1]).lineRef
    ∧ ((awake 0 0).senses[0]).enable = false ∧ ((s.senses[1]).enable = true ∧ (s.senses[1]).edges = .rise)
    ∧ (((chattering 199).senses[1]).gapTracker = some 199 ∧ 199 < ((chattering 199).senses[1]).minGap)
    ∧ (((chattering 200).senses[1]).gapTracker = some 200 ∧ ¬ 200 < ((chattering 200).senses[1]).minGap)
    ∧ (fresh.senses[1]).prescaleCount + 1 < (fresh.senses[1]).prescale
    ∧ (s.senses[1]).prescale ≤ (s.senses[1]).prescaleCount + 1 := by decide +kernel

/-- Inputs 7 and 8, prescales 8 and 3, gaps 65535 and 65536. -/
theorem witness_SenseConfigAndReadStamp :
    (awake 0 0).accepts ∧ 7 < 8 ∧ (7 : Nat) = (7 : SenseIx).val
    ∧ (((8 : Nat) = 1 ∨ 8 = 2 ∨ 8 = 4 ∨ 8 = 8) ∧ 65535 ≤ 65535)
    ∧ ¬ ((3 : Nat) = 1 ∨ 3 = 2 ∨ 3 = 4 ∨ 3 = 8) ∧ ¬ 65536 ≤ 65535 :=
  ⟨accepts_awake 0 0, by decide, rfl, by decide, by decide, by decide⟩

/-- The reject line: one TIME-free list of two steps that spawns at reserves up to 126, and each condition that fails it. -/
theorem witness_SpawnTakesAllOrNone :
    let s := rejectLine 126
    let timed : State := { stopped s with bindings := s.bindings.set 0 { s.bindings[0] with
      steps := [{ what := pulseRec.what, offset := 1 }] } }
    ((∀ b : BindingIx, b ∈ [(0 : BindingIx)] ↔ (s.bindings[b]).enabled = true ∧ (s.bindings[b]).input = 0)
      ∧ [(0 : BindingIx)].Pairwise (· < ·))
    ∧ ({ s with table := { s.table with sweep := some 0 } } : State).table.sweep ≠ none
    ∧ (s.table.sweep = none ∧ timed.table.sweep = none)
    ∧ ((∃ y ∈ (timed.bindings[0]).steps, y.what.base = .time) ∧ timed.time.running = false)
    ∧ ¬ (∃ y ∈ (s.bindings[0]).steps, y.what.base = .time)
    ∧ ((∃ y ∈ (s.bindings[0]).steps, y.what.base ≠ .time) ∧ (homingAt s).time.homing = true ∧ s.time.homing = false)
    ∧ s.table.reserve + (s.bindings[0]).steps.length ≤ s.table.freeCount
    ∧ (rejectLine 127).table.freeCount < (rejectLine 127).table.reserve + ((rejectLine 127).bindings[0]).steps.length := by
  decide +kernel

/-- Binding numbers 15 and 16; a good item list; a binding enabled, with live records, and with neither. -/
theorem witness_BindWriteEnableAndRead :
    let a : BindWriteItems := { binding := 15, input := 7, steps := [{ offset := 2 ^ 30, items := plain }] }
    ((awake 0 0).accepts ∧ 15 < 16 ∧ a.binding = (15 : BindingIx).val ∧ a.input = (7 : SenseIx).val)
    ∧ (a.input ≤ 7 ∧ 1 ≤ a.steps.length ∧ a.steps.length ≤ 4
      ∧ ∀ y ∈ a.steps, y.items.Meets ∧ 1 ≤ y.offset ∧ y.offset ≤ Config.horizon y.items.domain)
    ∧ ¬ ((8 : Nat) ≤ 7)
    ∧ ((rejectLine 8).bindings[0]).enabled = true ∧ ((rejectLine 8).bindings[0]).steps ≠ []
    ∧ ((four.bindings[0]).enabled = false ∧ 0 < (four.bindings[0]).live)
    ∧ (((awake 0 0).bindings[15]).enabled = false ∧ ((awake 0 0).bindings[15]).live = 0
      ∧ ((awake 0 0).bindings[15]).steps = []) := by
  refine ⟨⟨accepts_awake 0 0, by decide, rfl, rfl⟩, ⟨by decide, by decide, by decide, ?_⟩, by decide, by decide +kernel⟩
  intro y hy
  obtain rfl := List.mem_singleton.1 hy
  exact ⟨plain_meets, by decide, by decide⟩

theorem witness_BindDisableRetiresOnRequest :
    four.accepts ∧ CollectionsExact four ∧ 15 < 16 ∧ (15 : Nat) = (15 : BindingIx).val
    ∧ ({ binding := 0, retire := true } : BindDisableItems).retire = true
    ∧ ({ binding := 0, retire := false } : BindDisableItems).retire = false
    ∧ (four.table.recordAt 3).any (fun r => r.isFrom 0 && r.phase.isArmed) = true :=
  ⟨⟨rfl, rfl, by decide +kernel⟩, four_collections, by decide, rfl, rfl, rfl, by decide +kernel⟩

theorem four_sweep : SweepConsistent four := ⟨fun h => absurd rfl h, fun _ => by decide +kernel⟩

theorem sweeping_consistent : SweepConsistent sweeping :=
  ⟨fun _ => ⟨free_everywhere, rfl, rfl⟩, fun h => absurd h (Option.some_ne_none 0)⟩

theorem witness_QuiesceEntryMakesChannelsSafe :
    ((awake 0 0).rstn = .high ∧ (awake 0 0).quiesce.mirror = .high ∧ (awake 0 0).quiesced = false)
    ∧ ({ four with quiesce := { latch := true, mirror := .low } } : State).quiesce.mirror = .low
    ∧ four.accepts ∧ four.quiesced = true ∧ SweepConsistent sweeping ∧ ¬ sweeping.normal :=
  ⟨⟨rfl, rfl, rfl⟩, rfl, ⟨rfl, rfl, by decide +kernel⟩, rfl, sweeping_consistent, Option.some_ne_none 0⟩

/-- The pin LOW; the latch clear; the latch set over a suspended record. -/
theorem witness_ResumeReleasesTheList :
    let pin : State := { State.reset with quiesce := { latch := true, mirror := .low } }
    (pin.accepts ∧ QuiesceInvariant pin ∧ pin.quiesce.mirror = .low)
    ∧ ((awake 0 0).accepts ∧ QuiesceInvariant (awake 0 0) ∧ (awake 0 0).quiesce = { latch := false, mirror := .high })
    ∧ (four.accepts ∧ QuiesceInvariant four ∧ four.quiesce = { latch := true, mirror := .high }) := by
  refine ⟨⟨⟨rfl, rfl, by decide +kernel⟩, ?_, rfl⟩, ⟨accepts_awake 0 0, ?_, rfl⟩, ⟨rfl, rfl, by decide +kernel⟩, four_quiesce,
    rfl⟩
  · refine ⟨collections_of (by decide +kernel), ?_, nofun, fun _ => by decide +kernel, nofun⟩
    intro i r h
    rw [show _ = _ from free_everywhere i] at h
    cases h
  · refine ⟨collections_of (by decide +kernel), ?_, fun _ => rfl, nofun, fun _ => ⟨by decide +kernel, rfl⟩⟩
    intro i r h
    rw [awake_free] at h
    cases h

/-- The record of "Example: Repetition Catch-up Through a Quiesce" at its release: due 11500, interval 1000, TB-T 14200. With
4 firings left the third value is the first ahead; with 2 left none is. -/
theorem witness_ReleaseFiresLateAndCatchesUp :
    let s := put 40 suspendedRec (awake 14200 0)
    let f : Firing := { action := .pulse 200, priority := 1, handle := { slot := 40, gen := 0 } }
    let busy := chan 5 (.burst 1 { slot := 9, gen := 0 } .high 1 1 1 1) .high s
    let r (n : Option Nat) : ActionRecord :=
      { suspendedRec with what := { suspendedRec.what with rep := some { interval := 1000, remaining := n } } }
    let lies (k : Nat) : Prop := 1 ≤ s.ahead .time (11500 + BitVec.ofNat 32 (k * 1000))
      ∧ s.ahead .time (11500 + BitVec.ofNat 32 (k * 1000)) ≤ Config.horizon .time
    (s.table.recordAt 40 = some suspendedRec ∧ suspendedRec.phase = .suspended 11500
      ∧ suspendedRec.what.work = .onChannel 5 (.pulse 200))
    ∧ ((s.channels[5]).take f).2 ≠ .conflict ∧ ((busy.channels[5]).take f).2 = .conflict
    ∧ s.counting (.pulse 200) = .pulse 200 ∧ (late s).counting (.pulse 200) = .pulse 201
    ∧ suspendedRec.what.rep = none
    ∧ ((r (some 0)).what.rep = some { interval := 1000, remaining := some 0 }
      ∧ (r (some 4)).what.rep = some { interval := 1000, remaining := some 4 }
      ∧ (r none).what.rep = some { interval := 1000, remaining := none } ∧ (r none).what.base = .time)
    ∧ (lies 3 ∧ ¬ lies 1 ∧ ¬ lies 2 ∧ 3 ≤ 4) := by decide +kernel

theorem witness_ReleaseFiresLateAndCatchesUp_inRange (n : Nat) (h : n ≤ 65535) :
    ({ interval := 1000, remaining := some n } : Repeat).inRange .time
    ∧ ({ interval := 1000, remaining := none } : Repeat).inRange .time :=
  ⟨⟨show 1 ≤ 1000 by decide, show 1000 ≤ 2 ^ 30 by decide, by rintro m hm; cases hm; exact h⟩, by decide, by decide, nofun⟩

theorem witness_CausesFollowRaisesAndReports : ∀ k : Fin 11, (four.attention.causes[k]).count ≤ 255 := by decide +kernel

/-- A part with DONE_PENDING pending, counted once. -/
theorem witness_AttentionRequestsActOnCauses :
    four.accepts ∧ (four.attention.cause .donePending) = { pending := true, count := 1, masked := false } :=
  ⟨⟨rfl, rfl, by decide +kernel⟩, by decide +kernel⟩

/-! #### The invariants, each at a state with a SUSPENDED, a DONE, a PARKED and a spawned record from which a step is taken -/

theorem witness_CollectionsStayExact : CollectionsExact four ∧ ∃ t, step four = .next t := ⟨four_collections, four_steps⟩

theorem four_live : LiveCountsExact four := by unfold LiveCountsExact; decide +kernel

theorem witness_LiveCountsStayExact : LiveCountsExact four ∧ (four.bindings[0]).live = 1 ∧ ∃ t, step four = .next t :=
  ⟨four_live, by decide +kernel, four_steps⟩

theorem witness_GroupsAndHomingStayConsistent :
    SweepConsistent four ∧ GroupsConsistent four ∧ HomingExclusive four ∧ four.time.homing = true
    ∧ SweepConsistent sweeping ∧ ∃ t, step four = .next t :=
  ⟨four_sweep, four_groups, fun _ => four_cases rfl rfl rfl rfl, rfl, sweeping_consistent, four_steps⟩

theorem witness_LevelCausesStayReported : LevelsReported four ∧ ∃ t, step four = .next t := ⟨four_levels, four_steps⟩

theorem witness_QuiesceStaysConsistent : QuiesceInvariant four ∧ ∃ t, step four = .next t := ⟨four_quiesce, four_steps⟩

theorem witness_LinesStayInAgreement : LinesAgree four ∧ ∃ t, step four = .next t := by
  refine ⟨fun c => ?_, four_steps⟩
  have h : ∀ c : ChannelIx, four.channels[c] = Channel.initial := by decide +kernel
  rw [h c]
  rfl

/-- A window that shows RDY over a filled head, a reserved entry behind it and the table SWEEPING. -/
theorem witness_LinkStaysConsistent :
    let s := inWindow showing (queue [filled 1, { tag := 2, reply := none }] { sweeping with pending := [.sweepEnd] })
    LinkConsistent s ∧ ∃ t, step s = .next t := by
  refine ⟨⟨by decide +kernel, by decide +kernel, ?_⟩, _, rfl⟩
  intro w hw _
  cases hw
  decide +kernel

theorem witness_TimeRecordsStayAhead : TimeDueInvariant four ∧ four.table.recordAt 3 = some spawnedRec
    ∧ (15000 - four.time.tbT).toNat ≤ 2 ^ 30 ∧ ∃ t, step four = .next t := by
  refine ⟨⟨four_ranges, fun i r due h _ hp => ?_, four_live⟩, by decide +kernel, by decide +kernel, four_steps⟩
  revert due
  refine four_cases (p := fun r => ∀ due, r.phase = .armed due → (due - four.time.tbT).toNat ≤ 2 ^ 30) nofun nofun nofun ?_ i r h
  rintro due hp
  cases hp
  decide +kernel

theorem witness_GenerationsMoveOnlyOnFreeing :
    let s := put 3 pulseRec (awake 100 0)
    (∃ t, exec (.fallingDue (.channel .time 5)) s = .next t)
    ∧ (∀ v l, Instr.fallingDue (.channel .time 5) ≠ .powerOn v l) ∧ Instr.fallingDue (.channel .time 5) ≠ .rstnLow
    ∧ (∀ l, Instr.fallingDue (.channel .time 5) ≠ .rstnHigh l)
    ∧ (∀ g p, Instr.fallingDue (.channel .time 5) ≠ .softReset g p)
    ∧ (∀ g p, Instr.fallingDue (.channel .time 5) ≠ .tableClear g p) ∧ Instr.fallingDue (.channel .time 5) ≠ .sweepEnd
    ∧ ∀ m, Instr.fallingDue (.channel .time 5) ≠ .windowClose m := by
  refine ⟨⟨_, rfl⟩, nofun, nofun, nofun, nofun, nofun, nofun, nofun⟩

end Sys2Proof.Tests
end

section
/-! SUPPORT. What an accepted request frame leaves, what a report of a level condition does to a count and a mask, and that
reports of conditions which stand as already reported change nothing. -/

namespace Sys2Proof.Machine

/-- A frame the link takes runs its claim, and the reply stands in one filled entry at the tail (R174, R176). -/
theorem State.submit_of_accepts {s : State} (h : s.accepts) (tag : Byte) (claim : State → State × Reply) :
    s.submit tag claim = (claim s).1.answered tag (claim s).2.result (claim s).2.payload := by
  obtain ⟨hrstn, hrefusal, hroom⟩ := h
  exact s.submit_accepted tag claim hrstn ((Link.blocked_eq_false s.link).mpr ⟨hrefusal, hroom⟩)

/-- The table is SWEEPING exactly while it is not NORMAL (R22). -/
theorem State.sweeping_eq_false_iff (s : State) : s.sweeping = false ↔ s.normal :=
  Option.isSome_eq_false_iff.trans Option.isNone_iff_eq_none

/-- A report leaves the mask bit as it was (R161). -/
@[simp] theorem CauseState.reported_masked (x : CauseState) (holds : Bool) : (x.reported holds).masked = x.masked := by
  cases holds <;> cases hp : x.pending <;> simp [CauseState.reported, CauseState.raised, hp]

/-- A report counts exactly a rise of the condition, up to 255 (R161). -/
theorem CauseState.reported_count (x : CauseState) (holds : Bool) :
    (x.reported holds).count = if holds = true ∧ x.pending = false then min 255 (x.count + 1) else x.count := by
  cases holds <;> cases hp : x.pending <;> simp [CauseState.reported, CauseState.raised, satAdd, hp]

@[simp] theorem Attention.put_cause_self (a : Attention) (c : Cause) : a.put c (a.cause c) = a := by
  simp [Attention.put, Attention.cause]

/-- A report of a condition that is pending as it stands changes nothing (R161). -/
theorem Attention.report_same (a : Attention) (c : Cause) {holds : Bool} (h : (a.cause c).pending = holds) :
    a.report c holds = a := by
  rw [Attention.report, ← h, CauseState.reported_same, Attention.put_cause_self]

/-- Where both level causes stand as reported, reporting them again changes nothing (R161). -/
theorem State.reportLevels_eq_self {s : State} (h : LevelsReported s) : s.reportLevels = s := by
  have hlow : (s.attention.cause .tableLow).pending = decide (s.table.freeCount < s.table.lowThreshold) := by
    rw [Bool.eq_iff_iff, h.table_low, decide_eq_true_iff]
  have hdone : (s.attention.cause .donePending).pending = !s.table.doneList.isEmpty := by
    rw [Bool.eq_iff_iff, h.done_pending]
    simp
  rw [State.reportLevels, Attention.report_same _ _ hlow, Attention.report_same _ _ hdone]
  rfl

@[simp] theorem State.reportLevels_lastMark (s : State) : s.reportLevels.attention.lastMark = s.attention.lastMark := rfl

end Sys2Proof.Machine
end

section
/-! SUPPORT. The pool check of a spawn, from both of its answers. -/

namespace Sys2Proof.Machine

/-- A spawn that fails for the pool asks for more than the free count less the reserve (R132). -/
theorem State.freeCount_lt_of_spawnFailure_pool {s : State} {x : Binding} (h : s.spawnFailure x = some .pool) :
    s.table.freeCount < s.table.reserve + x.steps.length := by
  unfold State.spawnFailure at h
  split_ifs at h with _ _ _ hpool <;> cases h
  exact hpool

/-- A spawn that does not fail leaves the reserve in the pool (R132). -/
theorem State.reserve_le_of_spawnFailure_none {s : State} {x : Binding} (h : s.spawnFailure x = none) :
    s.table.reserve + x.steps.length ≤ s.table.freeCount := by
  unfold State.spawnFailure at h
  split_ifs at h with _ _ _ hpool
  exact Nat.not_lt.mp hpool

end Sys2Proof.Machine
end

section
/-! PROOF. SETTINGS, one lemma for each way its checks can go (R15), and the obligation assembled from them. -/

namespace Sys2Proof.Machine

/-- The table with both settings replaced (R15). -/
def ActionTable.withSettings (t : ActionTable) (reserve low : Nat) : ActionTable :=
  { t with reserve := reserve, lowThreshold := low }

/-- The settings take and free no slot (R15). -/
@[simp] theorem ActionTable.withSettings_freeCount (t : ActionTable) (reserve low : Nat) :
    (t.withSettings reserve low).freeCount = t.freeCount := rfl

@[simp] theorem ActionTable.withSettings_reserve (t : ActionTable) (reserve low : Nat) :
    (t.withSettings reserve low).reserve = reserve := rfl

theorem settingsClaim_sweeping {s : State} (h : ¬ s.normal) (p : Payload SettingsItems) :
    settingsClaim p s = refuse s .busy := by
  have hsweep : s.sweeping = true := by
    rwa [← Bool.not_eq_false, s.sweeping_eq_false_iff]
  simp [settingsClaim, hsweep]

theorem settingsClaim_unfit {s : State} (h : s.normal) : settingsClaim .unfit s = refuse s .badField := by
  simp [settingsClaim, s.sweeping_eq_false_iff.mpr h]

theorem settingsClaim_out_of_range {s : State} (h : s.normal) {reserve low : Nat} (hout : 64 < reserve ∨ 127 < low) :
    settingsClaim (.fits { reserve := reserve, lowThreshold := low }) s = refuse s .badField := by
  simp [settingsClaim, s.sweeping_eq_false_iff.mpr h, hout]

theorem settingsClaim_in_range {s : State} (h : s.normal) {reserve low : Nat} (hr : reserve ≤ 64) (hl : low ≤ 127) :
    settingsClaim (.fits { reserve := reserve, lowThreshold := low }) s =
      answer (s.setTable (s.table.withSettings reserve low)).reportLevels [] := by
  simp [settingsClaim, ActionTable.withSettings, s.sweeping_eq_false_iff.mpr h, Nat.not_lt.mpr hr, Nat.not_lt.mpr hl]

/-- SETTINGS in a link that takes the frame: its claim and the entry that answers it (R15, R174). -/
theorem exec_settings {s : State} (h : s.accepts) (tag : Byte) (p : Payload SettingsItems) :
    exec (.settings tag p) s =
      .next ((settingsClaim p s).1.answered tag (settingsClaim p s).2.result (settingsClaim p s).2.payload) :=
  congrArg Host.Outcome.next (State.submit_of_accepts h tag (settingsClaim p))

/-- A refused SETTINGS leaves the state but for the entry that answers it (R15, R88). -/
theorem exec_settings_refused {s : State} (h : s.accepts) (tag : Byte) {p : Payload SettingsItems} {r : Result}
    (hp : settingsClaim p s = refuse s r) : exec (.settings tag p) s = .next (s.answered tag r []) := by
  rw [exec_settings h, hp]
  rfl

/-- An accepted SETTINGS leaves the table with its values, and the level conditions reported against them (R15, R161). -/
theorem exec_settings_in_range {s : State} (h : s.accepts) (hn : s.normal) (tag : Byte) {reserve low : Nat}
    (hr : reserve ≤ 64) (hl : low ≤ 127) :
    exec (.settings tag (.fits { reserve := reserve, lowThreshold := low })) s =
      .next ((s.setTable (s.table.withSettings reserve low)).reportLevels.answered tag .ok []) := by
  rw [exec_settings h, settingsClaim_in_range hn hr hl]
  rfl

/-- After SETTINGS only TABLE_LOW can have changed: DONE_PENDING is reported as it already stood (R15, R161). -/
theorem reportLevels_withSettings_cause_ne {s : State} (h : LevelsReported s) (reserve low : Nat) {k : Cause}
    (hk : k ≠ .tableLow) :
    (s.setTable (s.table.withSettings reserve low)).reportLevels.attention.cause k = s.attention.cause k := by
  have hstands := State.reportLevels_cause s k
  rw [State.reportLevels_eq_self h] at hstands
  rw [State.reportLevels_cause, hstands]
  cases k with
  | tableLow => exact absurd rfl hk
  | _ => rfl

theorem reportLevels_withSettings_tableLow (s : State) (reserve low : Nat) :
    (s.setTable (s.table.withSettings reserve low)).reportLevels.attention.cause .tableLow =
      (s.attention.cause .tableLow).reported (s.table.freeCount < low) :=
  State.reportLevels_cause _ .tableLow

/-- TABLE_LOW is counted where the new threshold makes its condition rise (R15, R161). -/
theorem reported_tableLow_count {s : State} (h : LevelsReported s) (low : Nat) :
    ((s.attention.cause .tableLow).reported (s.table.freeCount < low)).count =
      if s.table.freeCount < low ∧ ¬ s.table.freeCount < s.table.lowThreshold
      then min 255 ((s.attention.cause .tableLow).count + 1) else (s.attention.cause .tableLow).count := by
  simp only [CauseState.reported_count, decide_eq_true_iff, ← h.table_low, Bool.not_eq_true]

/-- Settles O40: the claim's checks case by case, and the reports of the level conditions against the table that an accepted
SETTINGS leaves. -/
theorem settingsReplaceBothAtOnce : Obligations.SettingsReplaceBothAtOnce := by
  intro s tag reserve low h
  refine ⟨fun hn => ?busy, fun hn => ?unfit, fun hn hout => ?outOfRange, fun hn hr hl hlevels => ?replaced,
    fun hn hr hl hlevels => ?unchanged⟩
  case busy =>
    exact ⟨exec_settings_refused h tag (settingsClaim_sweeping hn _),
      exec_settings_refused h tag (settingsClaim_sweeping hn _)⟩
  case unfit => exact exec_settings_refused h tag (settingsClaim_unfit hn)
  case outOfRange => exact exec_settings_refused h tag (settingsClaim_out_of_range hn hout)
  case replaced =>
    refine ⟨(s.setTable (s.table.withSettings reserve low)).reportLevels.attention, exec_settings_in_range h hn tag hr hl,
      rfl, fun k hk => reportLevels_withSettings_cause_ne hlevels reserve low hk, ?_, ?_, ?_, fun t x ht => ?_⟩
    · rw [reportLevels_withSettings_tableLow, CauseState.reported_masked]
    · rw [reportLevels_withSettings_tableLow, CauseState.reported_pending, decide_eq_true_iff]
    · rw [reportLevels_withSettings_tableLow, reported_tableLow_count hlevels]
    · have htable : t.table = s.table.withSettings reserve low := ht
      have hfree : t.table.freeCount = s.table.freeCount := by rw [htable, ActionTable.withSettings_freeCount]
      have hreserve : t.table.reserve = reserve := by rw [htable, ActionTable.withSettings_reserve]
      rw [← hfree, ← hreserve]
      exact ⟨State.freeCount_lt_of_spawnFailure_pool, State.reserve_le_of_spawnFailure_none⟩
  case unchanged =>
    have hsame : s.setTable (s.table.withSettings s.table.reserve s.table.lowThreshold) = s := rfl
    rw [exec_settings_in_range h hn tag hr hl, hsame, State.reportLevels_eq_self hlevels]

end Sys2Proof.Machine
end

section
/-! SUPPORT. The bytes that the part gives out, against the bits and numbers that they show (R183). -/

namespace Sys2Proof.Machine

/-- The byte that starts at bit `k` of a word, as a quotient and as its bits. -/
theorem u8_toNat_div_two_pow (w : Word) (k : Nat) : u8 (w.toNat / 2 ^ k) = w.extractLsb' k 8 := by
  rw [u8, BitVec.extractLsb', Nat.shiftRight_eq_div_pow]

/-- A word goes out as its four bytes, most significant first (R183). -/
theorem beWord_eq_wordBytes (w : Word) : beWord w = wordBytes w := by
  have hlast : u8 w.toNat = w.extractLsb' 0 8 := by
    simpa using u8_toNat_div_two_pow w 0
  simp only [beWord, be32, wordBytes, u8_toNat_div_two_pow, hlast]

/-- The low byte of a number is its remainder by 256. -/
theorem u8_mod_256 (n : Nat) : u8 (n % 256) = u8 n :=
  BitVec.eq_of_toNat_eq (by simp [u8])

/-- A flag's byte is 1 where it is set and 0 where it is not (R183). -/
theorem flagByte_eq (b : Bool) : [u8 (bit b)] = if b = true then [1] else [0] := by
  cases b <;> rfl

end Sys2Proof.Machine
end

section
/-! PROOF. READ_T and READ_P (R30, R40): an accepted read without surplus bytes leaves only its answer, and the answer's bytes
are the timebases' values. -/

namespace Sys2Proof.Machine

/-- An accepted request without payload whose claim only answers leaves the state but for that answer (R174, R177). -/
theorem State.submit_pad_answer {s : State} (h : s.accepts) (tag : Byte) (bytes : State → List Byte) :
    s.submit tag (fun s => withPad (.fits ()) s (fun s => answer s (bytes s))) = s.answered tag .ok (bytes s) :=
  State.submit_of_accepts h tag _

theorem exec_readT {s : State} (h : s.accepts) (tag : Byte) :
    exec (.readT tag (.fits ())) s = .next (s.answered tag .ok (readTBytes s.time)) :=
  congrArg Host.Outcome.next (State.submit_pad_answer h tag fun s => readTBytes s.time)

theorem exec_readP {s : State} (h : s.accepts) (tag : Byte) :
    exec (.readP tag (.fits ())) s = .next (s.answered tag .ok (readPBytes s.time)) :=
  congrArg Host.Outcome.next (State.submit_pad_answer h tag fun s => readPBytes s.time)

/-- READ_T's payload: TB-T, whether it runs, and the divisor's two bytes (R30, Table 11-1). -/
theorem readTBytes_eq (t : Timebases) :
    readTBytes t = wordBytes t.tbT ++ (if t.running = true then [1] else [0])
      ++ [BitVec.ofNat 8 (t.divisor / 256), BitVec.ofNat 8 (t.divisor % 256)] := by
  have hdivisor : be16 t.divisor = [u8 (t.divisor / 256), u8 (t.divisor % 256)] := by
    rw [be16, u8_mod_256]
  rw [readTBytes, beWord_eq_wordBytes, flagByte_eq, hdivisor, u8, u8]

/-- The last step direction's byte: 0 for none yet, 1 for FWD, 2 for REV (Table 11-1). -/
theorem dirByte_eq (d : Option Dir) :
    [u8 (dirCode d)] = match d with
      | none => [0]
      | some .fwd => [1]
      | some .rev => [2] := by
  rcases d with _ | _ | _ <;> rfl

/-- READ_P's payload: TB-P, whether it is homing, the home value and the last step direction (R40, Table 11-1). -/
theorem readPBytes_eq (t : Timebases) :
    readPBytes t = wordBytes t.tbP ++ (if t.homing = true then [1] else [0]) ++ wordBytes t.homeValue
      ++ (match t.lastDir with
        | none => ([0] : List Byte)
        | some .fwd => [1]
        | some .rev => [2]) := by
  rw [readPBytes, beWord_eq_wordBytes, beWord_eq_wordBytes, flagByte_eq, dirByte_eq]

/-- Settles O23: an accepted read leaves only its answer, whose bytes are the values that the request finds. -/
theorem timebaseReadsChangeNothing : Obligations.TimebaseReadsChangeNothing := by
  intro s tag h
  refine ⟨?readT, ?readP⟩
  case readT => exact readTBytes_eq s.time ▸ exec_readT h tag
  case readP => exact readPBytes_eq s.time ▸ exec_readP h tag

end Sys2Proof.Machine
end

section
/-! SUPPORT. The ways a record proceeds after falling due, what its repetition spends there, and the whole effect of the end of
its work, with keep (R58, R94) and without it (R2, R5, R59). -/

namespace Sys2Proof.Machine

/-- One more firing of a finite repetition leaves one fewer (R55). -/
theorem Repeat.spend_of_remaining_succ {x : Repeat} {n : Nat} (h : x.remaining = some (n + 1)) :
    x.spend = { x with remaining := some n } := by
  simp [Repeat.spend, h]

/-- An endless repetition consumes no firing (R10, R55). -/
theorem Repeat.spend_of_endless {x : Repeat} (h : x.remaining = none) : x.spend = { x with remaining := none } := by
  simp [Repeat.spend, h]

/-- A REV record's interval is subtracted, every other record's is added (R56, R57). -/
theorem advance_eq_ite (b : Base) (due : Word) (interval : Nat) :
    advance b due interval =
      if b = .position .rev then due - BitVec.ofNat 32 interval else due + BitVec.ofNat 32 interval := by
  rcases b with _ | _ | _ <;> rfl

theorem State.proceed_of_no_repeat (s : State) (i : SlotIx) {r : ActionRecord} (due : Word) (h : r.what.rep = none) :
    s.proceed i r due = s.finish i r .completed := by
  simp only [State.proceed, h]

theorem State.proceed_of_spent (s : State) (i : SlotIx) {r : ActionRecord} (due : Word) {x : Repeat}
    (h : r.what.rep = some x) (hspent : x.remaining = some 0) : s.proceed i r due = s.finish i r .completed := by
  simp only [State.proceed, h, if_pos hspent]

theorem State.proceed_of_repeats (s : State) (i : SlotIx) {r : ActionRecord} (due : Word) {x : Repeat}
    (h : r.what.rep = some x) (hleft : x.remaining ≠ some 0) :
    s.proceed i r due =
      s.armAt i { r with what := { r.what with rep := some x.spend } } (advance r.what.base due x.interval) := by
  simp only [State.proceed, h, if_neg hleft]

theorem State.finish_of_keep (s : State) (i : SlotIx) {r : ActionRecord} (reason : EndReason) (h : r.what.keep = true) :
    s.finish i r reason = s.makeDone i r reason := if_pos h

theorem State.finish_of_not_keep (s : State) (i : SlotIx) {r : ActionRecord} (reason : EndReason)
    (h : r.what.keep = false) : s.finish i r reason = s.freeSlot i r := by
  rw [State.finish, h, if_neg Bool.false_ne_true]

/-- The slots after a completion or retirement with keep: only the record's own content is replaced (R2, R58, R94). -/
theorem State.makeDone_slot (s : State) (i j : SlotIx) (r : ActionRecord) (reason : EndReason) :
    (s.makeDone i r reason).table.slot j =
      if i = j then { s.table.slot j with content := some { r with phase := .done r.phase.due reason } }
      else s.table.slot j :=
  s.table.slot_write i j _

/-- A record that goes changes nothing outside the bindings (R5). -/
theorem State.dropLive_frame (s : State) (o : Origin) : s.dropLive o = { s with bindings := (s.dropLive o).bindings } := by
  cases o <;> rfl

/-- A record that goes changes nothing of a binding but its live count (R5). -/
theorem State.dropLive_binding (s : State) (o : Origin) (b : BindingIx) :
    (s.dropLive o).bindings[b] = { s.bindings[b] with live := ((s.dropLive o).bindings[b]).live } := by
  cases o with
  | host => rfl
  | binding x n =>
    by_cases h : x = b
    · subst h
      simp [State.dropLive]
    · have h' : x.val ≠ b.val := fun e => h (Fin.ext e)
      simp [State.dropLive, h']

/-- A completion or retirement with keep changes the record, the two lists and nothing else (R58, R94). -/
theorem State.makeDone_keptDone (s : State) (i : SlotIx) (r : ActionRecord) (reason : EndReason) :
    KeptDone s (s.makeDone i r reason) i r reason where
  frame := rfl
  slot := by rw [s.makeDone_slot, if_pos rfl]
  others j hj := by rw [s.makeDone_slot, if_neg hj.symm]

/-- A freeing changes the slot, the two lists, the binding's live count and nothing else (R2, R5, R59). -/
theorem State.freeSlot_freed (s : State) (i : SlotIx) (r : ActionRecord) : Freed s (s.freeSlot i r) i r := by
  obtain ⟨hslot, hsuspended, hdone⟩ := s.freeSlot_table i r
  refine ⟨?frame, ?slot, fun j hj => ?others, fun b => ?bindings⟩
  case frame =>
    rw [State.freeSlot, State.dropLive_frame]
    rfl
  case slot => rw [hslot, if_pos rfl]
  case others => rw [hslot, if_neg hj.symm]
  case bindings => rw [State.freeSlot, State.dropLive_binding, State.dropLive_live]; rfl

end Sys2Proof.Machine
end

section
/-! PROOF. Repetition and the end of a record's work (R55 to R59), from the equation of each way a record proceeds. -/

namespace Sys2Proof.Machine

/-- Settles O27: the cases of the repeat field, then the cases of keep. -/
theorem recordRepeatsOrEnds : Obligations.RecordRepeatsOrEnds := by
  refine ⟨fun s i r due => ⟨s.proceed_of_no_repeat i due, fun x hrep => ⟨s.proceed_of_spent i due hrep, ?finite, ?endless⟩⟩,
    fun s i r reason => ⟨fun hkeep => ?kept, fun hkeep => ?freed⟩⟩
  case finite =>
    intro n hleft
    rw [s.proceed_of_repeats i due hrep (by simp [hleft]), Repeat.spend_of_remaining_succ hleft, advance_eq_ite]
    rfl
  case endless =>
    intro hleft
    rw [s.proceed_of_repeats i due hrep (by simp [hleft]), Repeat.spend_of_endless hleft, advance_eq_ite]
    rfl
  case kept => exact s.finish_of_keep i reason hkeep ▸ s.makeDone_keptDone i r reason
  case freed => exact s.finish_of_not_keep i reason hkeep ▸ s.freeSlot_freed i r

end Sys2Proof.Machine
end

section
/-! SUPPORT. What a channel makes of a firing, from the state that it meets: steady, a pulse that the firing merges into, or an
action in flight that it contests (R72, R75, R76, R77). -/

namespace Sys2Proof.Machine

/-- The channel is in REST or ASSERTED (R72). -/
def Channel.Steady (c : Channel) : Prop := c.state = .rest ∨ c.state = .asserted

/-- The channel has an action in flight of priority `q` (R75, R76). -/
def Channel.InFlightAt (c : Channel) (q : Fin 4) : Prop :=
  (∃ h g, c.state = .pulse q h g) ∨ ∃ h p k n hi lo, c.state = .burst q h p k n hi lo

/-- The firing is a PULSE that meets a PULSE of priority `q` on a MERGE channel (R75). -/
def Channel.Merges (c : Channel) (f : Firing) (q : Fin 4) : Prop :=
  c.policy = .merge ∧ (∃ h g, c.state = .pulse q h g) ∧ ∃ w, f.action = .pulse w

/-- The steady state that the line gives is REST or ASSERTED (R76). -/
theorem Channel.settleFromLine_steady (c : Channel) : c.settleFromLine.Steady := by
  unfold Channel.Steady Channel.settleFromLine
  split_ifs
  · exact .inr rfl
  · exact .inl rfl

theorem Channel.apply_assert (c : Channel) {f : Firing} (h : f.action = .assert) : c.apply f = c.toAsserted := by
  rw [Channel.apply, h]

theorem Channel.apply_release (c : Channel) {f : Firing} (h : f.action = .release) : c.apply f = c.toRest := by
  rw [Channel.apply, h]

theorem Channel.apply_toggle (c : Channel) {f : Firing} (h : f.action = .toggle) :
    c.apply f = if c.state = .asserted then c.toRest else c.toAsserted := by
  rw [Channel.apply, h]

theorem Channel.apply_pulse (c : Channel) {f : Firing} {w : Nat} (h : f.action = .pulse w) :
    c.apply f = { c with state := .pulse f.priority f.handle w, line := c.active } := by
  rw [Channel.apply, h]

theorem Channel.apply_burst (c : Channel) {f : Firing} {b : Burst} (h : f.action = .burst b) :
    c.apply f =
      { c with state := .burst f.priority f.handle .high b.high b.cycles b.high b.low, line := c.active } := by
  rw [Channel.apply, h]

/-- A steady channel applies every firing (R72). -/
theorem Channel.take_of_steady {c : Channel} (hc : c.Steady) (f : Firing) : c.take f = (c.apply f, .fired) := by
  rcases hc with h | h <;> simp only [Channel.take, h]

/-- A merge keeps the later end, the higher priority and the handle of the firing that began the pulse (R75). -/
theorem Channel.take_of_pulse_of_merge {c : Channel} {f : Firing} {q : Fin 4} {h : Handle} {g w : Nat}
    (hstate : c.state = .pulse q h g) (hpolicy : c.policy = .merge) (haction : f.action = .pulse w) :
    c.take f = ({ c with state := .pulse (max f.priority q) h (max g w), merges := bump16 c.merges }, .merged) := by
  simp only [Channel.take, hstate, haction, hpolicy]

/-- A firing that meets an action in flight and is not merged contests it by its priority (R76, R77). -/
theorem Channel.take_eq_contest {c : Channel} {f : Firing} {q : Fin 4} (hc : c.InFlightAt q) (hm : ¬ c.Merges f q) :
    c.take f = c.contest f q := by
  rcases hc with ⟨h, g, hpulse⟩ | ⟨h, p, k, n, hi, lo, hburst⟩
  · simp only [Channel.take, hpulse]
    split
    · next w haction hpolicy => exact absurd ⟨hpolicy, ⟨h, g, hpulse⟩, w, haction⟩ hm
    · rfl
  · simp only [Channel.take, hburst]

/-- A firing of higher priority is applied on the steady state of the line (R76). -/
theorem Channel.contest_of_lt {q : Fin 4} {f : Firing} (c : Channel) (hq : q < f.priority) :
    c.contest f q = ({ c.settleFromLine with preemptions := bump16 c.preemptions }.apply f, .fired) := if_pos hq

/-- A firing of equal or lower priority is refused (R77). -/
theorem Channel.contest_of_le {q : Fin 4} {f : Firing} (c : Channel) (hq : f.priority ≤ q) :
    c.contest f q = ({ c with conflicts := bump16 c.conflicts }, .conflict) := if_neg hq.not_gt

end Sys2Proof.Machine
end

section
/-! SUPPORT. A grain tick after a firing against one before it: a channel that takes the tick of the firing's instant last counts
that tick among those to come, so the two orders agree (R73, R75, R80). -/

namespace Sys2Proof.Machine

/-- A firing as a channel counts it ahead of a tick of its own instant (R73, R75). -/
def Firing.beforeTick (f : Firing) : Firing := { f with action := f.action.timed true }

/-- A firing is a PULSE just where it is one as counted ahead of the tick (R73). -/
theorem Channel.merges_beforeTick_iff (c : Channel) (f : Firing) (q : Fin 4) :
    c.Merges f.beforeTick q ↔ c.Merges f q := by
  have hpulse : (∃ w, f.beforeTick.action = .pulse w) ↔ ∃ w, f.action = .pulse w := by
    cases h : f.action <;> simp [Firing.beforeTick, h]
  rw [Channel.Merges, Channel.Merges, hpulse]

/-- Where the grain is whole, its tick is still to come, and a firing is counted ahead of it (R24, R73). -/
theorem State.timed_of_grainWhole {s : State} (h : s.time.grainWhole = true) (f : Firing) : s.timed f = f.beforeTick := by
  simp only [State.timed, Firing.beforeTick, h]

/-- Where the grain is not whole, a firing is counted as it was sent (R73). -/
theorem State.timed_of_not_grainWhole {s : State} (h : s.time.grainWhole = false) (f : Firing) : s.timed f = f := by
  simp only [State.timed, h, ChanAction.timed_false]

/-- A grain of at least one period is not whole at its beginning (R24). -/
theorem Timebases.tick_grainWhole {t : Timebases} (h : 1 ≤ t.divisor) : t.tick.grainWhole = false :=
  decide_eq_false (Nat.not_le.mpr h)

/-- A channel's state after a grain tick: a pulse has one grain fewer left (R24, R73). -/
def ChanState.ticked : ChanState → ChanState
  | .pulse q h g => .pulse q h (g - 1)
  | x => x

/-- A tick changes nothing of a channel but its state (R24). -/
theorem Channel.tick_eq (c : Channel) : c.tick = { c with state := c.state.ticked } := by
  obtain ⟨x⟩ := c
  cases x <;> rfl

/-- A state that a tick leaves as it is leaves the channel so (R24). -/
theorem Channel.tick_of_ticked_eq {c : Channel} (h : c.state.ticked = c.state) : c.tick = c := by
  rw [Channel.tick_eq, h]

/-- A tick leaves a steady channel as it is (R24). -/
theorem Channel.tick_of_steady {c : Channel} (hc : c.Steady) : c.tick = c :=
  Channel.tick_of_ticked_eq (by rcases hc with h | h <;> rw [h] <;> rfl)

/-- A tick ends no action in flight and changes no priority (R73, R78). -/
theorem Channel.InFlightAt.tick {c : Channel} {q : Fin 4} (hc : c.InFlightAt q) : c.tick.InFlightAt q := by
  rw [Channel.tick_eq]
  rcases hc with ⟨h, g, hpulse⟩ | ⟨h, p, k, n, hi, lo, hburst⟩
  · exact .inl ⟨h, g - 1, congrArg ChanState.ticked hpulse⟩
  · exact .inr ⟨h, p, k, n, hi, lo, congrArg ChanState.ticked hburst⟩

/-- A state that is a pulse after a tick was one before it (R73). -/
theorem ChanState.eq_pulse_of_ticked {x : ChanState} {q : Fin 4} {h : Handle} {g : Nat} (hx : x.ticked = .pulse q h g) :
    ∃ g', x = .pulse q h g' := by
  cases x with
  | pulse q' h' g' =>
    cases hx
    exact ⟨g', rfl⟩
  | _ => cases hx

/-- A tick makes no firing mergeable that was not (R75). -/
theorem Channel.Merges.of_tick {c : Channel} {f : Firing} {q : Fin 4} (hm : c.tick.Merges f q) : c.Merges f q := by
  rw [Channel.tick_eq] at hm
  obtain ⟨hpolicy, ⟨h, g, hpulse⟩, haction⟩ := hm
  exact ⟨hpolicy, ⟨h, ChanState.eq_pulse_of_ticked hpulse⟩, haction⟩

/-- An applied firing counted ahead of the tick stands, after it, as one applied after the tick: a pulse's one more grain is the
one that the tick takes, and no other state has ticks to count (R73). -/
theorem Channel.tick_apply_beforeTick (c : Channel) (f : Firing) : (c.apply f.beforeTick).tick = c.apply f := by
  have timed {a : ChanAction} (h : f.action = a) : f.beforeTick.action = a.timed true := congrArg (·.timed true) h
  rw [Channel.tick_eq]
  cases h : f.action with
  | assert => rw [c.apply_assert (timed h), c.apply_assert h]; rfl
  | release => rw [c.apply_release (timed h), c.apply_release h]; rfl
  | toggle =>
    rw [c.apply_toggle (timed h), c.apply_toggle h]
    split_ifs <;> rfl
  | pulse w => rw [c.apply_pulse (timed h), c.apply_pulse h]; rfl
  | burst b => rw [c.apply_burst (timed h), c.apply_burst h]; rfl

/-- A contest has one result and one verdict in either order: a pre-empting firing takes the steady state of the line, which a
tick does not move, and a refused one leaves the action in flight to the tick (R76, R77, R80). -/
theorem Channel.tick_contest_beforeTick (c : Channel) (f : Firing) (q : Fin 4) :
    Prod.map Channel.tick id (c.contest f.beforeTick q) = c.tick.contest f q := by
  rcases lt_or_ge q f.priority with hq | hq
  · rw [c.contest_of_lt (f := f.beforeTick) hq, c.tick.contest_of_lt hq, Prod.map_apply, Channel.tick_apply_beforeTick,
      c.tick_eq]
    rfl
  · rw [c.contest_of_le (f := f.beforeTick) hq, c.tick.contest_of_le hq, Prod.map_apply, Channel.tick_eq,
      c.tick_eq]
    rfl

/-- A merge has one result in either order: the later end is the later one with one tick taken from both (R75). -/
theorem Channel.tick_take_of_merges {c : Channel} {f : Firing} {q : Fin 4} (hm : c.Merges f q) :
    Prod.map Channel.tick id (c.take f.beforeTick) = c.tick.take f := by
  obtain ⟨hpolicy, ⟨h, g, hstate⟩, w, haction⟩ := hm
  have hlonger : f.beforeTick.action = .pulse (w + 1) := by simp [Firing.beforeTick, haction]
  have hticked : c.state.ticked = .pulse q h (g - 1) := congrArg ChanState.ticked hstate
  have hgrains : max g (w + 1) - 1 = max (g - 1) w := by omega
  rw [Channel.take_of_pulse_of_merge hstate hpolicy hlonger, c.tick_eq,
    Channel.take_of_pulse_of_merge (c := { c with state := c.state.ticked }) hticked hpolicy haction, ← hgrains,
    Prod.map_apply, Channel.tick_eq]
  rfl

/-- A channel that takes a firing and then the tick of its instant ends as one that takes the tick first, with the same verdict
(R73, R75, R80). -/
theorem Channel.tick_take_beforeTick (c : Channel) (f : Firing) :
    Prod.map Channel.tick id (c.take f.beforeTick) = c.tick.take f := by
  have steady (hc : c.Steady) : Prod.map Channel.tick id (c.take f.beforeTick) = c.tick.take f := by
    rw [Channel.tick_of_steady hc, Channel.take_of_steady hc, Channel.take_of_steady hc, Prod.map_apply,
      Channel.tick_apply_beforeTick, id]
  have contested {q : Fin 4} (hc : c.InFlightAt q) (hm : ¬ c.Merges f q) :
      Prod.map Channel.tick id (c.take f.beforeTick) = c.tick.take f := by
    rw [Channel.take_eq_contest hc (mt (c.merges_beforeTick_iff f q).mp hm),
      Channel.take_eq_contest hc.tick (mt Channel.Merges.of_tick hm), Channel.tick_contest_beforeTick]
  cases hstate : c.state with
  | rest => exact steady (.inl hstate)
  | asserted => exact steady (.inr hstate)
  | pulse q h g =>
    by_cases hm : c.Merges f q
    · exact Channel.tick_take_of_merges hm
    · exact contested (.inl ⟨h, g, hstate⟩) hm
  | burst q h p k n hi lo =>
    refine contested (.inr ⟨h, p, k, n, hi, lo, hstate⟩) ?_
    rintro ⟨-, ⟨h', g', hpulse⟩, -⟩
    rw [hstate] at hpulse
    cases hpulse
  | safe =>
    have hsame : c.tick = c := Channel.tick_of_ticked_eq (by rw [hstate]; rfl)
    simp only [Channel.take, hstate, Prod.map_apply, id, hsame]

/-- A tick reaches every channel (R24). -/
@[simp] theorem State.tickAll_channel (s : State) (c : ChannelIx) : s.tickAll.channels[c] = (s.channels[c]).tick :=
  Vector.getElem_map ..

/-- A tick of a part with one channel replaced ticks that channel with the others (R24, R87). -/
theorem State.tickAll_setChannel (s : State) (c : ChannelIx) (x : Channel) :
    (s.setChannel c x).tickAll = s.tickAll.setChannel c x.tick := by
  simp only [State.tickAll, State.setChannel_channels, Vector.map_set]
  rfl

/-- A tick touches no attention cause (R24). -/
theorem State.tickAll_raise (s : State) (k : Cause) : (s.raise k).tickAll = s.tickAll.raise k := rfl

/-- At a whole grain a firing and the tick of its instant give one state and one verdict in either order (R73, R75, R80). -/
theorem State.tickAll_fire {s : State} (hdivisor : 1 ≤ s.time.divisor) (hwhole : s.time.divisor ≤ s.time.grainPhase)
    (c : ChannelIx) (f : Firing) :
    (s.fire c f).1.tickAll = (s.tickAll.fire c f).1 ∧ (s.fire c f).2 = (s.tickAll.fire c f).2 := by
  have hfirst : s.timed f = f.beforeTick := State.timed_of_grainWhole (decide_eq_true hwhole) f
  have hlast : s.tickAll.timed f = f := State.timed_of_not_grainWhole (Timebases.tick_grainWhole hdivisor) f
  have htake := (s.channels[c]).tick_take_beforeTick f
  simp only [State.fire, hfirst, hlast, State.tickAll_channel, ← htake, Prod.map_fst, Prod.map_snd, id, and_true]
  rw [apply_ite State.tickAll, State.tickAll_raise, State.tickAll_setChannel]

end Sys2Proof.Machine
end

section
/-! PROOF. A channel and its firings (R72 to R77): applied on a steady channel, merged, pre-empting or refused in flight, and a
tick of the firing's instant in either order. -/

namespace Sys2Proof.Machine

/-- A firing that pre-empts is one taken by the channel in the steady state of its line, and it fires (R76). -/
theorem Channel.take_of_preempts {c : Channel} {f : Firing} {q : Fin 4} (hc : c.InFlightAt q) (hm : ¬ c.Merges f q)
    (hq : q < f.priority) :
    c.take f = { c.settleFromLine with preemptions := bump16 c.preemptions }.take f ∧ (c.take f).2 = .fired := by
  have hsteady : { c.settleFromLine with preemptions := bump16 c.preemptions }.Steady := c.settleFromLine_steady
  rw [Channel.take_eq_contest hc hm, c.contest_of_lt hq, Channel.take_of_steady hsteady]
  exact ⟨rfl, rfl⟩

/-- Settles O28: the actions on a steady channel, the three ways to meet an action in flight, and the two orders of a firing and
the tick of its instant. -/
theorem channelTakesEveryFiring : Obligations.ChannelTakesEveryFiring := by
  refine ⟨fun c f hc => ?steady, fun c f q hc => ⟨fun h g w hpolicy hstate haction => ?merged, fun hm hq => ?preempts,
    fun hm hq => ?refused⟩, fun s c f hdivisor hwhole => State.tickAll_fire hdivisor hwhole c f⟩
  case steady =>
    rw [Channel.take_of_steady hc]
    have fires {x : Channel} (h : c.apply f = x) : (c.apply f, Verdict.fired) = (x, .fired) := by rw [h]
    exact ⟨fun ha => fires (c.apply_assert ha), fun ha => fires (c.apply_release ha),
      fun ha hrest => fires ((c.apply_toggle ha).trans (if_neg (by simp [hrest]))),
      fun ha hasserted => fires ((c.apply_toggle ha).trans (if_pos hasserted)),
      fun w ha => fires (c.apply_pulse ha), fun b ha => fires (c.apply_burst ha)⟩
  case merged =>
    rw [Channel.take_of_pulse_of_merge hstate hpolicy haction, max_comm, max_def_lt, max_def_lt]
    rfl
  case preempts => exact Channel.take_of_preempts hc hm hq
  case refused =>
    rw [Channel.take_eq_contest hc hm, c.contest_of_le hq]
    rfl

end Sys2Proof.Machine
end

section
/-! SUPPORT. A request that the link takes, by how its claim goes: refused or answered. -/

namespace Sys2Proof.Machine

/-- The table is SWEEPING exactly while it is not NORMAL (R22). -/
theorem State.sweeping_eq_true_iff (s : State) : s.sweeping = true ↔ ¬ s.normal := by
  rw [← s.sweeping_eq_false_iff, Bool.not_eq_false]

/-- A request whose claim refuses it leaves the state but for the entry that says so (R88, R174). -/
theorem State.submit_of_refuse {s : State} (h : s.accepts) (tag : Byte) {claim : State → State × Reply} {r : Result}
    (hc : claim s = refuse s r) : s.submit tag claim = s.answered tag r [] := by
  rw [State.submit_of_accepts h, hc]
  rfl

/-- A request whose claim answers it leaves the claim's state with the entry that holds the answer (R174, R177). -/
theorem State.submit_of_answer {s t : State} (h : s.accepts) (tag : Byte) {claim : State → State × Reply}
    {bytes : List Byte} (hc : claim s = answer t bytes) : s.submit tag claim = t.answered tag .ok bytes := by
  rw [State.submit_of_accepts h, hc]
  rfl

end Sys2Proof.Machine
end

section
/-! SUPPORT. The time due order (R18): its members, the key it is sorted by, and the member at its head. -/

namespace Sys2Proof.Machine

theorem insertByKey_eq_orderedInsert (key : SlotIx → Nat) (i : SlotIx) (l : List SlotIx) :
    insertByKey key i l = l.orderedInsert (fun a b => key a ≤ key b) i := by
  induction l with
  | nil => rfl
  | cons j rest ih => rw [insertByKey, List.orderedInsert_cons, ih]

/-- The time due order is the ARMED TIME records sorted by their keys (R17, R18). -/
theorem ActionTable.timeDueOrder_eq_insertionSort (t : ActionTable) (tbT : Word) :
    t.timeDueOrder tbT = (t.armedIn .time).insertionSort (fun a b => t.dueKey tbT a ≤ t.dueKey tbT b) := by
  have hinsert : insertByKey (t.dueKey tbT) = List.orderedInsert (fun a b => t.dueKey tbT a ≤ t.dueKey tbT b) :=
    funext₂ (insertByKey_eq_orderedInsert _)
  rw [ActionTable.timeDueOrder, hinsert, List.insertionSort]

theorem Phase.isArmed_iff (p : Phase) : p.isArmed = true ↔ ∃ due, p = .armed due := by
  cases p <;> simp [Phase.isArmed]

theorem Base.domain_eq_time_iff (b : Base) : b.domain = .time ↔ b = .time := by
  cases b <;> simp [Base.domain]

/-- The time due order holds exactly the ARMED TIME records (R17). -/
theorem ActionTable.mem_timeDueOrder (t : ActionTable) (tbT : Word) (i : SlotIx) :
    i ∈ t.timeDueOrder tbT ↔ ∃ r due, t.recordAt i = some r ∧ r.phase = .armed due ∧ r.what.base = .time := by
  simp only [t.timeDueOrder_eq_insertionSort, List.mem_insertionSort, ActionTable.armedIn, t.mem_slotsWith,
    Bool.and_eq_true, beq_iff_eq, Phase.isArmed_iff, Base.domain_eq_time_iff]
  exact exists_congr fun r => ⟨fun ⟨hr, ⟨due, hp⟩, hb⟩ => ⟨due, hr, hp, hb⟩, fun ⟨due, hr, hp, hb⟩ => ⟨hr, ⟨due, hp⟩, hb⟩⟩

/-- The key of an ARMED record counts its grains ahead first, then its priority down from the highest, then its slot (R18). -/
theorem ActionTable.dueKey_of_armed {t : ActionTable} {i : SlotIx} {r : ActionRecord} {due : Word}
    (hr : t.recordAt i = some r) (hp : r.phase = .armed due) (tbT : Word) :
    t.dueKey tbT i = ((due - tbT).toNat * 4 + (3 - r.what.priority.val)) * 128 + i.val := by
  simp only [ActionTable.dueKey, hr, hp, distance]

/-- No two slots have one key: its remainder by 128 is the slot (R18). -/
theorem ActionTable.dueKey_injective (t : ActionTable) (tbT : Word) : Function.Injective (t.dueKey tbT) := by
  have hmod : ∀ i, t.dueKey tbT i % 128 = i.val := by
    intro i
    unfold ActionTable.dueKey
    split
    · split <;> omega
    · omega
  intro i j hkey
  exact Fin.ext ((hmod i).symm.trans ((congrArg (· % 128) hkey).trans (hmod j)))

/-- A slot that stands no later than another in R18's three criteria has no greater key. -/
theorem State.dueKey_le_of_dueNoLater {s : State} {i j : SlotIx} (h : s.dueNoLater i j) :
    s.table.dueKey s.time.tbT i ≤ s.table.dueKey s.time.tbT j := by
  obtain ⟨r, q, d, e, hr, hq, hd, he, horder⟩ := h
  rw [ActionTable.dueKey_of_armed hr hd, ActionTable.dueKey_of_armed hq he]
  simp only [Fin.lt_def, Fin.le_def, Fin.ext_iff] at horder
  omega

/-- A member whose key no other member's is below is at the head of the time due order (R18). -/
theorem ActionTable.timeDueOrder_head {t : ActionTable} {tbT : Word} {i : SlotIx} (hi : i ∈ t.timeDueOrder tbT)
    (hleast : ∀ j ∈ t.timeDueOrder tbT, t.dueKey tbT i ≤ t.dueKey tbT j) : (t.timeDueOrder tbT).head? = some i := by
  have hsorted : (t.timeDueOrder tbT).Pairwise (fun a b => t.dueKey tbT a ≤ t.dueKey tbT b) := by
    have : Std.Total fun a b : SlotIx => t.dueKey tbT a ≤ t.dueKey tbT b := ⟨fun a b => Nat.le_total _ _⟩
    have : IsTrans SlotIx fun a b => t.dueKey tbT a ≤ t.dueKey tbT b := ⟨fun a b c => Nat.le_trans⟩
    rw [t.timeDueOrder_eq_insertionSort]
    exact List.pairwise_insertionSort _ _
  cases horder : t.timeDueOrder tbT with
  | nil => simp [horder] at hi
  | cons k rest =>
    rw [horder] at hi hleast hsorted
    obtain rfl | hrest := List.mem_cons.mp hi
    · rfl
    · have hkey : t.dueKey tbT k = t.dueKey tbT i :=
        Nat.le_antisymm ((List.pairwise_cons.mp hsorted).1 i hrest) (hleast k List.mem_cons_self)
      rw [t.dueKey_injective tbT hkey, List.head?_cons]

end Sys2Proof.Machine
end

section
/-! PROOF. NEXT_DUE (R100): one lemma for each way its checks can go, from the time due order's head. -/

namespace Sys2Proof.Machine

theorem nextDueClaim_sweeping {s : State} (h : ¬ s.normal) (u : Unit) : nextDueClaim (.fits u) s = refuse s .busy :=
  if_pos (s.sweeping_eq_true_iff.mpr h)

theorem nextDueClaim_of_no_head {s : State} (h : s.normal) (u : Unit) (hhead : s.table.timeDueOrder s.time.tbT = []) :
    nextDueClaim (.fits u) s = refuse s .empty := by
  simp [nextDueClaim, s.sweeping_eq_false_iff.mpr h, hhead, padOr]

theorem nextDueClaim_of_head {s : State} (h : s.normal) (u : Unit) {i : SlotIx}
    (hhead : (s.table.timeDueOrder s.time.tbT).head? = some i) :
    nextDueClaim (.fits u) s = answer s (handleBytes (s.table.handleOf i) ++ dueAt s.table i) := by
  obtain ⟨rest, horder⟩ := List.head?_eq_some_iff.mp hhead
  simp [nextDueClaim, s.sweeping_eq_false_iff.mpr h, horder]

theorem dueAt_of_armed {t : ActionTable} {i : SlotIx} {r : ActionRecord} {due : Word} (hr : t.recordAt i = some r)
    (hp : r.phase = .armed due) : dueAt t i = wordBytes due := by
  simp only [dueAt, hr, hp, dueBytes, beWord_eq_wordBytes]

/-- Settles O38: the sweep, the empty time due order, and its head, which the three criteria of R18 fix. -/
theorem nextDueReturnsTheHead : Obligations.NextDueReturnsTheHead := by
  intro s tag h
  refine ⟨fun hn => ?busy, fun hn hnone => ?empty, fun hn i r due hi hleast => ?head⟩
  case busy => exact congrArg Host.Outcome.next (State.submit_of_refuse h tag (nextDueClaim_sweeping hn ()))
  case empty =>
    have hnil : s.table.timeDueOrder s.time.tbT = [] := by
      refine List.eq_nil_iff_forall_not_mem.mpr fun i hi => ?_
      obtain ⟨r, due, harmed⟩ := (s.table.mem_timeDueOrder s.time.tbT i).mp hi
      exact hnone i r due harmed
    exact congrArg Host.Outcome.next (State.submit_of_refuse h tag (nextDueClaim_of_no_head hn () hnil))
  case head =>
    have hhead : (s.table.timeDueOrder s.time.tbT).head? = some i := by
      refine ActionTable.timeDueOrder_head ((s.table.mem_timeDueOrder s.time.tbT i).mpr ⟨r, due, hi⟩) fun j hj => ?_
      obtain ⟨q, e, hq⟩ := (s.table.mem_timeDueOrder s.time.tbT j).mp hj
      exact State.dueKey_le_of_dueNoLater (hleast j q e hq)
    obtain ⟨hr, hp, -⟩ := hi
    rw [← dueAt_of_armed hr hp]
    exact congrArg Host.Outcome.next (State.submit_of_answer h tag (nextDueClaim_of_head hn () hhead))

end Sys2Proof.Machine
end

section
/-! SUPPORT. Several records retired in the order of a list of slots (R94, R97, R129): what one retirement leaves, how two
follow one another, and the whole list. -/

namespace Sys2Proof.Machine

/-- What the end of its record's work makes of a slot: with keep the record DONE, without it FREE at the next generation
(R2, R58, R59, R94). -/
def Slot.ended (x : Slot) (r : ActionRecord) (reason : EndReason) : Slot :=
  if r.what.keep then { x with content := some { r with phase := .done r.phase.due reason } }
  else { x with gen := x.gen + 1, content := none }

theorem Slot.ended_of_keep (x : Slot) {r : ActionRecord} (reason : EndReason) (h : r.what.keep = true) :
    x.ended r reason = { x with content := some { r with phase := .done r.phase.due reason } } := if_pos h

theorem Slot.ended_of_not_keep (x : Slot) {r : ActionRecord} (reason : EndReason) (h : r.what.keep = false) :
    x.ended r reason = { x with gen := x.gen + 1, content := none } := by
  rw [Slot.ended, h, if_neg Bool.false_ne_true]

/-- The record in slot `i` stays on the done list when its work ends. -/
def ActionTable.keepsAt (t : ActionTable) (i : SlotIx) : Bool := (t.recordAt i).any (fun r => r.what.keep)

/-- The slot's record can be retired: it is PARKED, ARMED or SUSPENDED, and the slot is not on the done list (R21, R94). -/
def ActionTable.Retirable (t : ActionTable) (i : SlotIx) : Prop :=
  i ∉ t.doneList ∧ ∃ r, t.recordAt i = some r ∧ r.phase.isActive = true

/-- From `s` to `t` the records of the listed slots were retired one after the other (R94, R97). -/
structure RetiredInOrder (s t : State) (l : List SlotIx) (reason : EndReason) : Prop where
  frame : t = { s with
    table := { s.table with
      slots := t.table.slots
      suspended := s.table.suspended.diff l
      doneList := s.table.doneList ++ l.filter s.table.keepsAt }
    bindings := t.bindings }
  ended : ∀ i r, i ∈ l → s.table.recordAt i = some r → t.table.slot i = (s.table.slot i).ended r reason
  others : ∀ i, i ∉ l → t.table.slot i = s.table.slot i

theorem RetiredInOrder.nil (s : State) (reason : EndReason) : RetiredInOrder s s [] reason where
  frame := by rw [List.diff_nil, List.filter_nil, List.append_nil]
  ended _ _ hi := absurd hi List.not_mem_nil
  others _ _ := rfl

theorem RetiredInOrder.doneList {s t : State} {l : List SlotIx} {reason : EndReason} (h : RetiredInOrder s t l reason) :
    t.table.doneList = s.table.doneList ++ l.filter s.table.keepsAt := congrArg (·.table.doneList) h.frame

theorem RetiredInOrder.suspended {s t : State} {l : List SlotIx} {reason : EndReason} (h : RetiredInOrder s t l reason) :
    t.table.suspended = s.table.suspended.diff l := congrArg (·.table.suspended) h.frame

theorem RetiredInOrder.recordAt {s t : State} {l : List SlotIx} {reason : EndReason} (h : RetiredInOrder s t l reason)
    {i : SlotIx} (hi : i ∉ l) : t.table.recordAt i = s.table.recordAt i := congrArg Slot.content (h.others i hi)

/-- A slot outside the list can be retired afterwards as it could before. -/
theorem RetiredInOrder.retirable {s t : State} {l : List SlotIx} {reason : EndReason} (h : RetiredInOrder s t l reason)
    {i : SlotIx} (hi : i ∉ l) (hs : s.table.Retirable i) : t.table.Retirable i := by
  obtain ⟨hdone, hactive⟩ := hs
  refine ⟨?_, by rwa [h.recordAt hi]⟩
  rw [h.doneList, List.mem_append, List.mem_filter]
  exact fun hmem => hmem.elim hdone fun hl => hi hl.1

/-- One retirement and then those of other slots are the retirements of the longer list. -/
theorem RetiredInOrder.cons {s t u : State} {i : SlotIx} {rest : List SlotIx} {reason : EndReason}
    (hst : RetiredInOrder s t [i] reason) (htu : RetiredInOrder t u rest reason) (hi : i ∉ rest) :
    RetiredInOrder s u (i :: rest) reason := by
  have hrecord : ∀ j ∈ rest, t.table.recordAt j = s.table.recordAt j := fun j hj =>
    hst.recordAt fun hji => hi (List.mem_singleton.mp hji ▸ hj)
  refine ⟨?frame, fun j r hj hr => ?ended, fun j hj => ?others⟩
  case frame =>
    have hsuspended : t.table.suspended.diff rest = s.table.suspended.diff (i :: rest) := by
      rw [hst.suspended, List.diff_cons, List.diff_cons, List.diff_nil]
    have hdone : t.table.doneList ++ rest.filter t.table.keepsAt =
        s.table.doneList ++ (i :: rest).filter s.table.keepsAt := by
      have hkeeps : rest.filter t.table.keepsAt = rest.filter s.table.keepsAt :=
        List.filter_congr fun j hj => by rw [ActionTable.keepsAt, hrecord j hj, ActionTable.keepsAt]
      rw [hst.doneList, hkeeps, List.append_assoc, ← List.filter_append, List.singleton_append]
    refine htu.frame.trans ?_
    rw [hsuspended, hdone, hst.frame]
  case ended =>
    obtain rfl | hrest := List.mem_cons.mp hj
    · rw [htu.others j hi, hst.ended j r List.mem_cons_self hr]
    · have hne : j ∉ [i] := fun hji => hi (List.mem_singleton.mp hji ▸ hrest)
      rw [htu.ended j r hrest ((hrecord j hrest).trans hr), hst.others j hne]
  case others =>
    rw [List.mem_cons, not_or] at hj
    rw [htu.others j hj.2, hst.others j (by simpa using hj.1)]

/-- The end of one record's work, with keep and without it. -/
theorem State.finish_retiredInOrder {s : State} {i : SlotIx} {r : ActionRecord} (hr : s.table.recordAt i = some r)
    (hdone : i ∉ s.table.doneList) (reason : EndReason) : RetiredInOrder s (s.finish i r reason) [i] reason := by
  have hkeepsAt : s.table.keepsAt i = r.what.keep := by rw [ActionTable.keepsAt, hr, Option.any_some]
  have hended {t : State} (ht : t.table.slot i = (s.table.slot i).ended r reason) :
      ∀ j q, j ∈ [i] → s.table.recordAt j = some q → t.table.slot j = (s.table.slot j).ended q reason := by
    intro j q hj hq
    obtain rfl := List.mem_singleton.mp hj
    obtain rfl := Option.some.inj (hr.symm.trans hq)
    exact ht
  cases hkeep : r.what.keep with
  | true =>
    rw [s.finish_of_keep i reason hkeep]
    obtain ⟨hframe, hslot, hothers⟩ := s.makeDone_keptDone i r reason
    refine ⟨?_, hended (hslot.trans (Slot.ended_of_keep _ reason hkeep).symm), fun j hj => hothers j (by simpa using hj)⟩
    rw [List.diff_cons, List.diff_nil, List.filter_singleton, hkeepsAt, hkeep]
    exact hframe
  | false =>
    rw [s.finish_of_not_keep i reason hkeep]
    obtain ⟨hframe, hslot, hothers, -⟩ := s.freeSlot_freed i r
    refine ⟨?_, hended (hslot.trans (Slot.ended_of_not_keep _ reason hkeep).symm),
      fun j hj => hothers j (by simpa using hj)⟩
    rw [List.erase_of_not_mem hdone] at hframe
    rw [List.diff_cons, List.diff_nil, List.filter_singleton, hkeepsAt, hkeep, cond_false, List.append_nil]
    exact hframe

theorem State.retireAll_cons {s : State} {i : SlotIx} {r : ActionRecord} (hr : s.table.recordAt i = some r)
    (hactive : r.phase.isActive = true) (reason : EndReason) (rest : List SlotIx) :
    s.retireAll reason (i :: rest) = (s.finish i r reason).retireAll reason rest := by
  simp only [State.retireAll, hr, hactive, if_true]

/-- Retiring a list of distinct slots retires each of them (R97, R129). -/
theorem State.retireAll_retiredInOrder {s : State} {l : List SlotIx} (hl : l.Nodup) (h : ∀ i ∈ l, s.table.Retirable i)
    (reason : EndReason) : RetiredInOrder s (s.retireAll reason l) l reason := by
  induction l generalizing s with
  | nil => exact .nil s reason
  | cons i rest ih =>
    obtain ⟨hi, hrest⟩ := List.nodup_cons.mp hl
    obtain ⟨hdone, r, hr, hactive⟩ := h i List.mem_cons_self
    have hfirst := State.finish_retiredInOrder hr hdone reason
    rw [State.retireAll_cons hr hactive]
    refine hfirst.cons (ih hrest fun j hj => ?_) hi
    exact hfirst.retirable (fun hji => hi (List.mem_singleton.mp hji ▸ hj)) (h j (List.mem_cons_of_mem i hj))

/-- The host's records end without any binding (R5). -/
theorem State.finish_bindings_of_host (s : State) (i : SlotIx) {r : ActionRecord} (reason : EndReason)
    (h : r.origin = .host) : (s.finish i r reason).bindings = s.bindings := by
  cases hkeep : r.what.keep with
  | true => rw [s.finish_of_keep i reason hkeep, State.makeDone, State.setTable_bindings]
  | false => rw [s.finish_of_not_keep i reason hkeep, State.freeSlot, h, State.dropLive, State.setTable_bindings]

/-- Retiring the host's records changes no binding (R5). -/
theorem State.retireAll_bindings_of_host {s : State} {l : List SlotIx} (hl : l.Nodup)
    (h : ∀ i ∈ l, s.table.Retirable i) (hhost : ∀ i ∈ l, ∀ r, s.table.recordAt i = some r → r.origin = .host)
    (reason : EndReason) : (s.retireAll reason l).bindings = s.bindings := by
  induction l generalizing s with
  | nil => rfl
  | cons i rest ih =>
    obtain ⟨hi, hrest⟩ := List.nodup_cons.mp hl
    obtain ⟨hdone, r, hr, hactive⟩ := h i List.mem_cons_self
    have hfirst := State.finish_retiredInOrder hr hdone reason
    have hother : ∀ j ∈ rest, j ∉ [i] := fun j hj hji => hi (List.mem_singleton.mp hji ▸ hj)
    rw [State.retireAll_cons hr hactive, ih hrest, s.finish_bindings_of_host i reason (hhost i List.mem_cons_self r hr)]
    · exact fun j hj => hfirst.retirable (hother j hj) (h j (List.mem_cons_of_mem i hj))
    · exact fun j hj q hq => hhost j (List.mem_cons_of_mem i hj) q (hfirst.recordAt (hother j hj) ▸ hq)

/-- Where the done list is exact, every record that is not DONE can be retired (R21). -/
theorem CollectionsExact.retirable {s : State} (hs : CollectionsExact s) {i : SlotIx} {r : ActionRecord}
    (hr : s.table.recordAt i = some r) (hactive : r.phase.isActive = true) : s.table.Retirable i := by
  refine ⟨fun hmem => ?_, r, hr, hactive⟩
  obtain ⟨q, hq, hdone⟩ := (hs.done_iff i).mp hmem
  obtain rfl := Option.some.inj (hr.symm.trans hq)
  simp [Phase.isActive, hdone] at hactive

/-- In exact collections, retiring all records that satisfy `p`, none of them DONE, retires them together (R97, R129). -/
theorem State.retireAll_retiredTogether {s : State} (hs : CollectionsExact s) {p : ActionRecord → Bool}
    (hp : ∀ r, p r = true → r.phase.isActive = true) (reason : EndReason) :
    RetiredTogether s (s.retireAll reason (s.table.slotsWith p)) (fun i => (s.table.recordAt i).any p) reason := by
  have hretirable : ∀ i ∈ s.table.slotsWith p, s.table.Retirable i := by
    intro i hi
    obtain ⟨r, hr, hpr⟩ := (s.table.mem_slotsWith p i).mp hi
    exact hs.retirable hr (hp r hpr)
  have hmem : ∀ i, i ∈ s.table.slotsWith p ↔ (s.table.recordAt i).any p = true := fun i => by
    rw [s.table.mem_slotsWith, Option.any_eq_true]
  obtain ⟨hframe, hended, hothers⟩ :=
    State.retireAll_retiredInOrder (s.table.slotsWith_nodup p) hretirable reason
  refine ⟨hframe.trans ?frame, fun i r hi hr hkeep => ?kept, fun i r hi hr hkeep => ?freed, fun i hi => ?others⟩
  case frame =>
    have hsuspended : s.table.suspended.diff (s.table.slotsWith p) =
        s.table.suspended.filter fun i => !(s.table.recordAt i).any p := by
      rw [hs.suspended_nodup.sdiff_eq_filter]
      exact List.filter_congr fun i _ => by simp only [hmem, Bool.decide_eq_true, decide_not]
    have hdone : (s.table.slotsWith p).filter s.table.keepsAt =
        (List.finRange 128).filter fun i => (s.table.recordAt i).any p && s.table.keepsAt i := by
      rw [ActionTable.slotsWith, List.filter_filter]
      exact List.filter_congr fun i _ => Bool.and_comm _ _
    rw [hsuspended, hdone]
    rfl
  case kept => rw [hended i r ((hmem i).mpr hi) hr, Slot.ended_of_keep _ reason hkeep]
  case freed => rw [hended i r ((hmem i).mpr hi) hr, Slot.ended_of_not_keep _ reason hkeep]
  case others => exact hothers i fun hi' => Bool.false_ne_true (hi.symm.trans ((hmem i).mp hi'))

end Sys2Proof.Machine
end

section
/-! SUPPORT. The members of a group started together (R95, R96). -/

namespace Sys2Proof.Machine

/-- A start leaves every slot that is not listed (R96). -/
theorem State.goAll_slot_of_not_mem (s : State) {l : List SlotIx} {j : SlotIx} (hj : j ∉ l) :
    (s.goAll l).table.slot j = s.table.slot j := by
  induction l generalizing s with
  | nil => rfl
  | cons i rest ih =>
    obtain ⟨hne, hrest⟩ := not_or.mp (mt List.mem_cons.mpr hj)
    cases hr : s.table.recordAt i with
    | none => simpa only [State.goAll, hr] using ih s hrest
    | some r =>
      simp only [State.goAll, hr]
      rw [ih _ hrest, State.putRecord, State.setTable_table, ActionTable.slot_write, if_neg (Ne.symm hne)]

/-- A start replaces each listed record by its started form, and no generation or mark (R2, R96). -/
theorem State.goAll_slot_of_mem {s : State} {l : List SlotIx} (hl : l.Nodup) {j : SlotIx} (hj : j ∈ l) {r : ActionRecord}
    (hr : s.table.recordAt j = some r) :
    (s.goAll l).table.slot j = { s.table.slot j with content := some (goRecord s r) } := by
  induction l generalizing s with
  | nil => cases hj
  | cons i rest ih =>
    obtain ⟨hi, hrest⟩ := List.nodup_cons.mp hl
    obtain rfl | hj := List.mem_cons.mp hj
    · simp only [State.goAll, hr]
      rw [State.goAll_slot_of_not_mem _ hi, State.putRecord, State.setTable_table, ActionTable.slot_write, if_pos rfl]
    · have hne : i ≠ j := fun hij => hi (hij ▸ hj)
      cases hq : s.table.recordAt i with
      | none => simpa only [State.goAll, hq] using ih hrest hj hr
      | some q =>
        have hr' : (s.putRecord i (goRecord s q)).table.recordAt j = some r := by
          rw [State.putRecord, State.setTable_table, ActionTable.recordAt_write, if_neg hne, hr]
        have hslot : (s.putRecord i (goRecord s q)).table.slot j = s.table.slot j := by
          rw [State.putRecord, State.setTable_table, ActionTable.slot_write, if_neg hne]
        simp only [State.goAll, hq]
        rw [ih hrest hj hr', hslot]
        rfl

/-- A start changes the slots and nothing else (R96). -/
theorem State.goAll_frame (s : State) (l : List SlotIx) :
    s.goAll l = { s with table := { s.table with slots := (s.goAll l).table.slots } } := by
  induction l generalizing s with
  | nil => rfl
  | cons i rest ih =>
    cases hr : s.table.recordAt i with
    | none => simpa only [State.goAll, hr] using ih s
    | some r =>
      simp only [State.goAll, hr]
      exact ih _

theorem Phase.isParked_iff (p : Phase) : p.isParked = true ↔ ∃ n, p = .parked n := by
  cases p <;> simp [Phase.isParked]

/-- A PARKED record starts ARMED with its offset ahead of now in its domain and direction (R96). -/
theorem goRecord_of_parked (s : State) {r : ActionRecord} {n : Nat} (h : r.phase = .parked n) :
    goRecord s r = { r with phase := .armed (aheadOf r.what.base s.time.tbT s.time.tbP n) } := by
  simp only [goRecord, h]

/-- The slot's record is PARKED and of the group (R95). -/
def ActionTable.isParkedMember (t : ActionTable) (g : Nat) (i : SlotIx) : Bool :=
  (t.recordAt i).any (fun r => r.phase.isParked && r.group == some g)

theorem ActionTable.parkedIn_eq_filter (t : ActionTable) (g : Nat) :
    t.parkedIn g = (List.finRange 128).filter (t.isParkedMember g) := rfl

theorem ActionTable.mem_parkedIn (t : ActionTable) (g : Nat) (i : SlotIx) :
    i ∈ t.parkedIn g ↔ t.isParkedMember g i = true := by
  simp [ActionTable.parkedIn_eq_filter]

/-- Some PARKED record of the group is POSITION (R95). -/
theorem ActionTable.parkedPosition_eq_true (t : ActionTable) (g : Nat) :
    t.parkedPosition g = true ↔
      ∃ i r, t.recordAt i = some r ∧ t.isParkedMember g i = true ∧ r.what.base.domain = .position := by
  simp only [ActionTable.parkedPosition, Bool.not_eq_true', List.isEmpty_eq_false_iff_exists_mem, t.mem_slotsWith,
    Bool.and_eq_true, beq_iff_eq]
  refine exists_congr fun i => exists_congr fun r => and_congr_right fun hr => ?_
  simp [ActionTable.isParkedMember, hr]

end Sys2Proof.Machine
end

section
/-! PROOF. GO_GROUP (R95, R96): one lemma for each way its checks can go, and the records it starts. -/

namespace Sys2Proof.Machine

theorem goGroupClaim_out_of_range {g : Nat} (h : g = 0 ∨ 15 < g) (s : State) : goGroupClaim g s = refuse s .badField :=
  if_pos (by simp; omega)

/-- For a group from 1 to 15 the first check passes (R95). -/
theorem goGroupClaim_in_range {g : Nat} (h1 : 1 ≤ g) (h15 : g ≤ 15) (s : State) :
    goGroupClaim g s =
      if s.sweeping then refuse s .busy
      else if (s.table.parkedIn g).isEmpty then refuse s .empty
      else if s.table.parkedPosition g && s.time.homing then refuse s .state
      else answer (s.goAll (s.table.parkedIn g)) [u8 (s.table.parkedIn g).length] :=
  if_neg (by simp [h1, h15])

/-- The condition of R37 for a GO_GROUP: homing is ARMED and a PARKED record of the group is POSITION. -/
def State.homingStops (s : State) (g : Nat) : Prop :=
  s.time.homing = true
    ∧ ∃ i r, s.table.recordAt i = some r ∧ s.table.isParkedMember g i = true ∧ r.what.base.domain = .position

theorem State.homingStops_iff (s : State) (g : Nat) :
    s.homingStops g ↔ (s.table.parkedPosition g && s.time.homing) = true := by
  rw [Bool.and_eq_true, s.table.parkedPosition_eq_true, and_comm, State.homingStops]

section
variable {s : State} {g : Nat} (h1 : 1 ≤ g) (h15 : g ≤ 15)
include h1 h15

theorem goGroupClaim_sweeping (h : ¬ s.normal) : goGroupClaim g s = refuse s .busy := by
  rw [goGroupClaim_in_range h1 h15, if_pos (s.sweeping_eq_true_iff.mpr h)]

theorem goGroupClaim_of_no_member (h : s.normal) (hnone : ∀ i, s.table.isParkedMember g i = false) :
    goGroupClaim g s = refuse s .empty := by
  have hempty : (s.table.parkedIn g).isEmpty = true := by
    rw [s.table.parkedIn_eq_filter]
    simp [hnone]
  rw [goGroupClaim_in_range h1 h15, s.sweeping_eq_false_iff.mpr h, if_neg Bool.false_ne_true, if_pos hempty]

/-- With a member in a NORMAL table only the homing check is left (R95). -/
theorem goGroupClaim_of_member (h : s.normal) {i : SlotIx} (hi : s.table.isParkedMember g i = true) :
    goGroupClaim g s =
      if s.table.parkedPosition g && s.time.homing then refuse s .state
      else answer (s.goAll (s.table.parkedIn g)) [u8 (s.table.parkedIn g).length] := by
  have hfound : ¬ (s.table.parkedIn g).isEmpty = true := by
    rw [List.isEmpty_iff]
    exact List.ne_nil_of_mem ((s.table.mem_parkedIn g i).mpr hi)
  rw [goGroupClaim_in_range h1 h15, s.sweeping_eq_false_iff.mpr h, if_neg Bool.false_ne_true, if_neg hfound]

theorem goGroupClaim_homing (h : s.normal) {i : SlotIx} (hi : s.table.isParkedMember g i = true)
    (hhoming : s.homingStops g) : goGroupClaim g s = refuse s .state := by
  rw [goGroupClaim_of_member h1 h15 h hi, if_pos ((s.homingStops_iff g).mp hhoming)]

theorem goGroupClaim_starts (h : s.normal) {i : SlotIx} (hi : s.table.isParkedMember g i = true)
    (hhoming : ¬ s.homingStops g) :
    goGroupClaim g s = answer (s.goAll (s.table.parkedIn g)) [u8 (s.table.parkedIn g).length] := by
  rw [goGroupClaim_of_member h1 h15 h hi, if_neg (mt (s.homingStops_iff g).mpr hhoming)]

end

/-- A PARKED member of the group is ARMED by the start, its offset ahead of now (R96). -/
theorem State.goAll_parkedIn_slot {s : State} {g : Nat} {i : SlotIx} {r : ActionRecord} {n : Nat}
    (hr : s.table.recordAt i = some r) (hg : r.group = some g) (hp : r.phase = .parked n) :
    (s.goAll (s.table.parkedIn g)).table.slot i = { s.table.slot i with
      content := some { r with phase := .armed (aheadOf r.what.base s.time.tbT s.time.tbP n) } } := by
  have hmem : i ∈ s.table.parkedIn g := by
    rw [s.table.mem_parkedIn, ActionTable.isParkedMember, hr, Option.any_some, hp, hg, beq_self_eq_true]
    rfl
  have hnodup : (s.table.parkedIn g).Nodup := s.table.slotsWith_nodup _
  rw [State.goAll_slot_of_mem hnodup hmem hr, goRecord_of_parked s hp]

theorem exec_goGroup_refused {s : State} (h : s.accepts) (tag : Byte) {p : Payload Nat} {r : Result}
    (hc : withItems p s goGroupClaim = refuse s r) : exec (.goGroup tag p) s = .next (s.answered tag r []) :=
  congrArg Host.Outcome.next (State.submit_of_refuse h tag hc)

end Sys2Proof.Machine
end

section
/-! PROOF. RETIRE_GROUP (R97): its checks, and the records it retires, all of them the host's; then the obligation for both
group requests. -/

namespace Sys2Proof.Machine

theorem retireGroupClaim_out_of_range {g : Nat} (h : g = 0 ∨ 15 < g) (s : State) :
    retireGroupClaim g s = refuse s .badField :=
  if_pos (by simp; omega)

/-- For a group from 1 to 15 the first check passes (R97). -/
theorem retireGroupClaim_in_range {g : Nat} (h1 : 1 ≤ g) (h15 : g ≤ 15) (s : State) :
    retireGroupClaim g s =
      if s.sweeping then refuse s .busy
      else answer (s.retireAll .groupRetired (s.table.activeIn g)).reportLevels [u8 (s.table.activeIn g).length] :=
  if_neg (by simp [h1, h15])

theorem retireGroupClaim_sweeping {s : State} {g : Nat} (h1 : 1 ≤ g) (h15 : g ≤ 15) (h : ¬ s.normal) :
    retireGroupClaim g s = refuse s .busy := by
  rw [retireGroupClaim_in_range h1 h15, if_pos (s.sweeping_eq_true_iff.mpr h)]

theorem retireGroupClaim_normal {s : State} {g : Nat} (h1 : 1 ≤ g) (h15 : g ≤ 15) (h : s.normal) :
    retireGroupClaim g s =
      answer (s.retireAll .groupRetired (s.table.activeIn g)).reportLevels [u8 (s.table.activeIn g).length] := by
  rw [retireGroupClaim_in_range h1 h15, s.sweeping_eq_false_iff.mpr h, if_neg Bool.false_ne_true]

/-- A record with a group is the host's (R4, R9). -/
theorem GroupsConsistent.origin_of_group {s : State} (hs : GroupsConsistent s) {i : SlotIx} {r : ActionRecord}
    (hr : s.table.recordAt i = some r) (hg : r.group ≠ none) : r.origin = .host :=
  Classical.byContradiction fun ho => hg (hs.spawned i r hr ho)

/-- The records that RETIRE_GROUP retires are the host's, so no binding changes (R5, R97). -/
theorem State.retireAll_activeIn_bindings {s : State} (hcollections : CollectionsExact s) (hgroups : GroupsConsistent s)
    (g : Nat) (reason : EndReason) : (s.retireAll reason (s.table.activeIn g)).bindings = s.bindings := by
  have hmember : ∀ i ∈ s.table.activeIn g, ∃ r, s.table.recordAt i = some r ∧ r.phase.isActive = true
      ∧ r.group = some g := by
    intro i hi
    simpa [ActionTable.activeIn, ActionTable.mem_slotsWith] using hi
  refine State.retireAll_bindings_of_host (s.table.slotsWith_nodup _) (fun i hi => ?retirable) (fun i hi r hr => ?host) reason
  case retirable =>
    obtain ⟨r, hr, hactive, -⟩ := hmember i hi
    exact hcollections.retirable hr hactive
  case host =>
    obtain ⟨q, hq, -, hg⟩ := hmember i hi
    obtain rfl := Option.some.inj (hq.symm.trans hr)
    exact hgroups.origin_of_group hr (by simp [hg])

theorem exec_retireGroup_refused {s : State} (h : s.accepts) (tag : Byte) {p : Payload Nat} {r : Result}
    (hc : withItems p s retireGroupClaim = refuse s r) : exec (.retireGroup tag p) s = .next (s.answered tag r []) :=
  congrArg Host.Outcome.next (State.submit_of_refuse h tag hc)

/-- Settles O36: for each of the two requests its checks in order, and then the whole group at once. -/
theorem groupRequestsTakeEveryMember : Obligations.GroupRequestsTakeEveryMember := by
  refine ⟨fun s tag g h => ?go, fun s tag g h hcollections hgroups => ?retire⟩
  case go =>
    refine ⟨exec_goGroup_refused h tag (withItems_unfit s _),
      fun hg => exec_goGroup_refused h tag (goGroupClaim_out_of_range hg s),
      fun h1 h15 => ⟨fun hn => exec_goGroup_refused h tag (goGroupClaim_sweeping h1 h15 hn),
        fun hn hnone => exec_goGroup_refused h tag (goGroupClaim_of_no_member h1 h15 hn hnone),
        fun hn ⟨_, hi⟩ hhoming => exec_goGroup_refused h tag (goGroupClaim_homing h1 h15 hn hi hhoming),
        fun hn ⟨_, hi⟩ hhoming => ⟨s.goAll (s.table.parkedIn g), ?answer, s.goAll_frame _, ?armed, fun j hj => ?others⟩⟩⟩
    case answer =>
      exact congrArg Host.Outcome.next (State.submit_of_answer h tag (goGroupClaim_starts h1 h15 hn hi hhoming))
    case armed => exact fun j r n hr hg hp => State.goAll_parkedIn_slot hr hg hp
    case others =>
      refine s.goAll_slot_of_not_mem fun hmem => Bool.false_ne_true (hj.symm.trans ?_)
      exact (s.table.mem_parkedIn g j).mp hmem
  case retire =>
    have hactive : ∀ r : ActionRecord, (r.phase.isActive && r.group == some g) = true → r.phase.isActive = true :=
      fun r hr => (Bool.and_eq_true_iff.mp hr).1
    exact ⟨exec_retireGroup_refused h tag (withItems_unfit s _),
      fun hg => exec_retireGroup_refused h tag (retireGroupClaim_out_of_range hg s),
      fun h1 h15 => ⟨fun hn => exec_retireGroup_refused h tag (retireGroupClaim_sweeping h1 h15 hn),
        fun hn => ⟨s.retireAll .groupRetired (s.table.activeIn g), State.retireAll_retiredTogether hcollections hactive _,
          State.retireAll_activeIn_bindings hcollections hgroups g _,
          congrArg Host.Outcome.next (State.submit_of_answer h tag (retireGroupClaim_normal h1 h15 hn))⟩⟩⟩

end Sys2Proof.Machine
end

section
/-! PROOF. SENSE_EDGE (R110 to R116): what each stage of an edge lets pass, the sense input that each stage leaves, and the
obligation assembled from one lemma for each way an edge can go. -/

namespace Sys2Proof.Machine

/-! ### The stages of an edge -/

/-- A sense input whose line reference has followed the line (R110). -/
def SenseInput.sampled (x : SenseInput) (v : Level) : SenseInput := { x with lineRef := v }

/-- A sample at HIGH makes a rising edge and one at LOW a falling edge (R110). -/
theorem edgePolarity_eq_ite (v : Level) : edgePolarity v = if v = .high then .rise else .fall := by
  cases v <;> rfl

/-- The selection names the polarity of an edge (R111). -/
theorem selects_edgePolarity_iff (e : EdgeSel) (v : Level) :
    selects e (edgePolarity v) = true ↔ e = .both ∨ (e = .rise ∧ v = .high) ∨ (e = .fall ∧ v = .low) := by
  cases e <;> cases v <;> decide

/-- An edge is examined (R111). -/
theorem SenseInput.examines_iff (x : SenseInput) (v : Level) :
    x.examines (edgePolarity v) = true ↔
      x.enable = true ∧ (x.edges = .both ∨ (x.edges = .rise ∧ v = .high) ∨ (x.edges = .fall ∧ v = .low)) := by
  rw [SenseInput.examines, Bool.and_eq_true, selects_edgePolarity_iff]

/-- The gap filter refuses exactly an edge whose elapsed count is below the gap; NONE and a gap of 0 let every edge pass
(R112). -/
theorem SenseInput.gapAccepts_iff (x : SenseInput) :
    x.gapAccepts = true ↔ ¬ ∃ e, x.gapTracker = some e ∧ e < x.minGap := by
  unfold SenseInput.gapAccepts
  cases x.gapTracker with
  | none => simp
  | some e =>
    have hgap : (x.minGap = 0 ∨ x.minGap ≤ e) ↔ ¬ e < x.minGap := by omega
    simpa using hgap

/-- An edge is accepted when it is examined and not within the gap (R111, R112); the line reference has no part in it. -/
theorem SenseInput.sampled_accepts_iff (x : SenseInput) (v : Level) :
    (x.sampled v).accepts (edgePolarity v) = true ↔
      (x.enable = true ∧ (x.edges = .both ∨ (x.edges = .rise ∧ v = .high) ∨ (x.edges = .fall ∧ v = .low)))
        ∧ ¬ ∃ e, x.gapTracker = some e ∧ e < x.minGap := by
  rw [SenseInput.accepts, Bool.and_eq_true, SenseInput.examines_iff, SenseInput.gapAccepts_iff, SenseInput.sampled]

theorem SenseInput.sampled_qualifies_iff (x : SenseInput) (v : Level) :
    (x.sampled v).qualifies = true ↔ x.prescale ≤ x.prescaleCount + 1 :=
  decide_eq_true_iff

/-- An accepted edge that does not qualify is counted (R112, R114). -/
theorem SenseInput.accept_of_not_qualifies {x : SenseInput} (h : ¬ x.qualifies = true) :
    x.accept = { x with gapTracker := some 0, prescaleCount := x.prescaleCount + 1 } := by
  rw [SenseInput.accept, if_neg h]

/-- A qualified edge returns the counter to 0 (R112, R114). -/
theorem SenseInput.accept_of_qualifies {x : SenseInput} (h : x.qualifies = true) :
    x.accept = { x with gapTracker := some 0, prescaleCount := 0 } := by
  rw [SenseInput.accept, if_pos h]

/-! ### The state after an edge -/

/-- What a qualified edge has done before the hand-off: the sense input stamped, and STAMP_OVERRUN raised where an unread
stamp is lost (R115). -/
theorem State.qualifiedEdge_eq (s : State) (n : SenseIx) (x : SenseInput) (p : Polarity) :
    s.qualifiedEdge n x p =
      ({ s.setSense n (x.stamp s.time.tbT s.time.tbP p) with
          attention := if x.unread = true then s.attention.raise .stampOverrun else s.attention }).spawn
        { input := n, stampT := s.time.tbT, stampP := s.time.tbP, polarity := p } := by
  unfold State.qualifiedEdge
  cases x.unread <;> rfl

/-- The branches of an edge, through the sense input as sampled (R110, R111, R112, R114). -/
theorem State.edge_eq (s : State) (n : SenseIx) (v : Level) :
    s.edge n v =
      if (s.senses[n].sampled v).accepts (edgePolarity v) then
        if (s.senses[n].sampled v).qualifies then s.qualifiedEdge n (s.senses[n].sampled v).accept (edgePolarity v)
        else s.setSense n (s.senses[n].sampled v).accept
      else s.setSense n (s.senses[n].sampled v) := rfl

section
variable {s : State} {n : SenseIx} {v : Level}

/-- An edge that is not accepted moves only the line reference (R110, R111, R112). -/
theorem State.edge_ignored (h : ¬ (s.senses[n].sampled v).accepts (edgePolarity v) = true) :
    s.edge n v = s.setSense n { s.senses[n] with lineRef := v } :=
  (s.edge_eq n v).trans (if_neg h)

/-- An accepted edge that does not qualify stops at the prescale counter (R114). -/
theorem State.edge_counted (h : (s.senses[n].sampled v).accepts (edgePolarity v) = true)
    (hq : ¬ (s.senses[n].sampled v).qualifies = true) :
    s.edge n v = s.setSense n
      { s.senses[n] with lineRef := v, gapTracker := some 0, prescaleCount := (s.senses[n]).prescaleCount + 1 } := by
  rw [s.edge_eq, if_pos h, if_neg hq, SenseInput.accept_of_not_qualifies hq, SenseInput.sampled]

/-- An accepted edge that qualifies goes on to the stamp with the counter at 0 (R114). -/
theorem State.edge_qualified (h : (s.senses[n].sampled v).accepts (edgePolarity v) = true)
    (hq : (s.senses[n].sampled v).qualifies = true) :
    s.edge n v = s.qualifiedEdge n { s.senses[n] with lineRef := v, gapTracker := some 0, prescaleCount := 0 }
      (edgePolarity v) := by
  rw [s.edge_eq, if_pos h, if_pos hq, SenseInput.accept_of_qualifies hq, SenseInput.sampled]

/-- With RSTn high only the line reference decides whether a sample is an edge (R110). -/
theorem exec_senseEdge_of_rstn_high (hrstn : s.rstn = .high) :
    exec (.senseEdge n v) s = .next (if (s.senses[n]).lineRef = v then s else s.edge n v) :=
  congrArg Host.Outcome.next (if_neg (by simp [hrstn]))

theorem exec_senseEdge_same (hrstn : s.rstn = .high) (h : v = (s.senses[n]).lineRef) :
    exec (.senseEdge n v) s = .next s := by
  rw [exec_senseEdge_of_rstn_high hrstn, if_pos h.symm]

theorem exec_senseEdge_edge (hrstn : s.rstn = .high) (h : v ≠ (s.senses[n]).lineRef) :
    exec (.senseEdge n v) s = .next (s.edge n v) := by
  rw [exec_senseEdge_of_rstn_high hrstn, if_neg h.symm]

end

/-- Settles O42: each way an edge can go is the branch of `State.edge` that the stages before it leave. -/
theorem senseEdgePassesItsStages : Obligations.SenseEdgePassesItsStages := by
  intro s n v hrstn x examined within put
  have haccepts : (x.sampled v).accepts (edgePolarity v) = true ↔ examined ∧ ¬ within := x.sampled_accepts_iff v
  refine ⟨exec_senseEdge_same hrstn, fun hv => ?edge⟩
  rw [exec_senseEdge_edge hrstn hv]
  refine ⟨fun he => ?unexamined, fun _ hw => ?withinGap, fun he hw hq => ?counted, fun he hw hq => ?qualified⟩
  case unexamined => exact congrArg _ (State.edge_ignored fun h => he (haccepts.mp h).1)
  case withinGap => exact congrArg _ (State.edge_ignored fun h => (haccepts.mp h).2 hw)
  case counted =>
    have hnot : ¬ (x.sampled v).qualifies = true := mt (x.sampled_qualifies_iff v).mp (Nat.not_le.mpr hq)
    exact congrArg _ (State.edge_counted (haccepts.mpr ⟨he, hw⟩) hnot)
  case qualified =>
    rw [State.edge_qualified (haccepts.mpr ⟨he, hw⟩) ((x.sampled_qualifies_iff v).mpr hq), State.qualifiedEdge_eq,
      edgePolarity_eq_ite]
    rfl

end Sys2Proof.Machine
end

section
/-! Bindings and spawning, elaborated in one thread, which keeps the number of threads and their memory small. -/

set_option Elab.async false

section
/-! SUPPORT. The execution of a request that the link takes, whichever request it is, by how its claim goes. -/

namespace Sys2Proof.Machine

/-- A request whose claim refuses it leaves the state but for its answer (R88, R174). -/
theorem exec_of_refuse {s : State} (h : s.accepts) {c : Instr} {tag : Byte} {claim : State → State × Reply} {r : Result}
    (hexec : exec c s = .next (s.submit tag claim)) (hc : claim s = refuse s r) :
    exec c s = .next (s.answered tag r []) := by
  rw [hexec, State.submit_of_refuse h tag hc]

/-- A request whose claim answers it leaves the claim's state with the answer (R174, R177). -/
theorem exec_of_answer {s t : State} (h : s.accepts) {c : Instr} {tag : Byte} {claim : State → State × Reply}
    {bytes : List Byte} (hexec : exec c s = .next (s.submit tag claim)) (hc : claim s = answer t bytes) :
    exec c s = .next (t.answered tag .ok bytes) := by
  rw [hexec, State.submit_of_answer h tag hc]

end Sys2Proof.Machine
end

section
/-! SUPPORT. The records of one spawn written into a list of slots, the first step's into the first slot and so on (R12, R134). -/

namespace Sys2Proof.Machine

section
variable (t : ActionTable) (o : Origin) (stampT stampP : Word)

/-- Writing a spawn's records changes the slots and nothing else of the table (R12). -/
theorem ActionTable.writeSpawn_frame (xs : List SpawnStep) (l : List SlotIx) :
    t.writeSpawn o stampT stampP xs l = { t with slots := (t.writeSpawn o stampT stampP xs l).slots } := by
  induction xs generalizing t l with
  | nil => rfl
  | cons x xs ih =>
    cases l with
    | nil => rfl
    | cons i is => exact ih (t.write i (spawnRecord o stampT stampP x)) is

/-- No slot changes past the first as many as there are steps (R12). -/
theorem ActionTable.writeSpawn_slot_of_not_mem {xs : List SpawnStep} {l : List SlotIx} {j : SlotIx}
    (h : j ∉ l.take xs.length) : (t.writeSpawn o stampT stampP xs l).slot j = t.slot j := by
  induction xs generalizing t l with
  | nil => rfl
  | cons x xs ih =>
    cases l with
    | nil => rfl
    | cons i is =>
      rw [List.length_cons, List.take_succ_cons, List.mem_cons, not_or] at h
      obtain ⟨hi, his⟩ := h
      rw [ActionTable.writeSpawn, ih _ his, ActionTable.slot_write, if_neg (Ne.symm hi)]

/-- Each step's record stands in its own slot, whose generation and mark stay (R2, R12, R134). -/
theorem ActionTable.writeSpawn_slot_of_mem {xs : List SpawnStep} {l : List SlotIx} (hl : l.Nodup)
    {p : SlotIx × SpawnStep} (hp : p ∈ l.zip xs) :
    (t.writeSpawn o stampT stampP xs l).slot p.1 =
      { t.slot p.1 with content := some (spawnRecord o stampT stampP p.2) } := by
  induction xs generalizing t l with
  | nil => simp at hp
  | cons x xs ih =>
    cases l with
    | nil => simp at hp
    | cons i is =>
      obtain ⟨hi, his⟩ := List.nodup_cons.mp hl
      rw [List.zip_cons_cons, List.mem_cons] at hp
      rw [ActionTable.writeSpawn]
      obtain rfl | hp := hp
      · rw [ActionTable.writeSpawn_slot_of_not_mem _ o stampT stampP (mt List.mem_of_mem_take hi), ActionTable.slot_write,
          if_pos rfl]
      · have hne : i ≠ p.1 := fun h => hi (h ▸ (List.of_mem_zip hp).1)
        rw [ih _ his hp, ActionTable.slot_write, if_neg hne]

/-- The free pool stands lowest slot first (R12). -/
theorem ActionTable.freeSlots_pairwise : t.freeSlots.Pairwise (· < ·) :=
  (List.sortedLT_finRange 128).pairwise.filter _

/-- The first slots of the free pool are the lowest: every FREE slot not among them lies above them (R12). -/
theorem ActionTable.lt_of_mem_take_freeSlots {k : Nat} {i j : SlotIx} (hi : i ∈ t.freeSlots.take k)
    (hfree : t.recordAt j = none) (hj : j ∉ t.freeSlots.take k) : i < j := by
  have hsplit := t.freeSlots_pairwise
  have hmem := (t.mem_freeSlots j).mpr hfree
  rw [← List.take_append_drop k t.freeSlots] at hsplit hmem
  exact (List.pairwise_append.mp hsplit).2.2 i hi j ((List.mem_append.mp hmem).resolve_left hj)

/-- A due value ahead of now, by the record's domain and direction (R134). -/
theorem aheadOf_eq (b : Base) (offset : Nat) : aheadOf b stampT stampP offset = match b with
    | .time => stampT + BitVec.ofNat 32 offset
    | .position .fwd => stampP + BitVec.ofNat 32 offset
    | .position .rev => stampP - BitVec.ofNat 32 offset := by
  rcases b with _ | _ | _ <;> rfl

end

end Sys2Proof.Machine
end

section
/-! SUPPORT. The checks of a spawn in the order of R132, each where those before it pass. -/

namespace Sys2Proof.Machine

/-- TB-T is stopped and the binding has a TIME step (R132). -/
def State.stopsSpawn (s : State) (x : Binding) : Prop :=
  (∃ y ∈ x.steps, y.what.base = .time) ∧ s.time.running = false

/-- Homing is ARMED and the binding has a POSITION step (R132). -/
def State.homingFailsSpawn (s : State) (x : Binding) : Prop :=
  (∃ y ∈ x.steps, y.what.base ≠ .time) ∧ s.time.homing = true

theorem Base.domain_eq_position_iff (b : Base) : b.domain = .position ↔ b ≠ .time := by
  cases b <;> simp [Base.domain]

theorem State.stopsSpawn_iff (s : State) (x : Binding) :
    s.stopsSpawn x ↔ (x.hasStep .time && !s.time.running) = true := by
  simp [State.stopsSpawn, Binding.hasStep, Base.domain_eq_time_iff]

theorem State.homingFailsSpawn_iff (s : State) (x : Binding) :
    s.homingFailsSpawn x ↔ (x.hasStep .position && s.time.homing) = true := by
  simp [State.homingFailsSpawn, Binding.hasStep, Base.domain_eq_position_iff]

section
variable {s : State} {x : Binding}

theorem State.spawnFailure_sweeping (h : ¬ s.normal) : s.spawnFailure x = some .sweep :=
  if_pos (s.sweeping_eq_true_iff.mpr h)

theorem State.spawnFailure_stopped (h : s.normal) (hs : s.stopsSpawn x) : s.spawnFailure x = some .tbStopped := by
  rw [State.spawnFailure, s.sweeping_eq_false_iff.mpr h, if_neg Bool.false_ne_true,
    if_pos ((s.stopsSpawn_iff x).mp hs)]

variable (h : s.normal) (hs : ¬ s.stopsSpawn x)
include h hs

theorem State.spawnFailure_homing (hh : s.homingFailsSpawn x) : s.spawnFailure x = some .homing := by
  rw [State.spawnFailure, s.sweeping_eq_false_iff.mpr h, if_neg Bool.false_ne_true,
    if_neg (mt (s.stopsSpawn_iff x).mpr hs), if_pos ((s.homingFailsSpawn_iff x).mp hh)]

/-- Past the timebase checks only the pool is left (R13, R132). -/
theorem State.spawnFailure_pool (hh : ¬ s.homingFailsSpawn x) :
    s.spawnFailure x = if s.table.freeCount < s.table.reserve + x.steps.length then some .pool else none := by
  rw [State.spawnFailure, s.sweeping_eq_false_iff.mpr h, if_neg Bool.false_ne_true,
    if_neg (mt (s.stopsSpawn_iff x).mpr hs), if_neg (mt (s.homingFailsSpawn_iff x).mpr hh)]

end

end Sys2Proof.Machine
end

section
/-! PROOF. The spawn claim (R116, R131 to R134, R137): the bindings that an edge selects, one binding's spawn in each of the ways
it can go, and the obligation assembled from them. -/

namespace Sys2Proof.Machine

theorem State.mem_selected (s : State) (n : SenseIx) (b : BindingIx) :
    b ∈ s.selected n ↔ (s.bindings[b]).enabled = true ∧ (s.bindings[b]).input = n := by
  simp [State.selected]

/-- An edge selects its bindings in ascending index (R131). -/
theorem State.selected_pairwise (s : State) (n : SenseIx) : (s.selected n).Pairwise (· < ·) :=
  (List.sortedLT_finRange 16).pairwise.filter _

section
variable {s : State} {b : BindingIx} (stampT stampP : Word)

theorem State.spawnOne_of_failure {why : FailCause} (h : s.spawnFailure s.bindings[b] = some why) :
    s.spawnOne stampT stampP b = s.recordFailure b why := by
  rw [State.spawnOne, h]

theorem State.spawnOne_of_no_failure (h : s.spawnFailure s.bindings[b] = none) :
    s.spawnOne stampT stampP b = s.makeSpawn b stampT stampP := by
  rw [State.spawnOne, h]

end

/-- A spawn changes the slots, and the ordinal and the live count of its binding (R134, R137). -/
theorem State.makeSpawn_frame (s : State) (b : BindingIx) (stampT stampP : Word) :
    s.makeSpawn b stampT stampP = { s with
      table := { s.table with slots := (s.makeSpawn b stampT stampP).table.slots }
      bindings := s.bindings.set b { s.bindings[b] with
        ordinal := ((s.bindings[b]).ordinal + 1) % 65536
        live := (s.bindings[b]).live + (s.bindings[b]).steps.length } b.isLt } := by
  have htable := s.table.writeSpawn_frame (.binding b (s.bindings[b]).ordinal) stampT stampP (s.bindings[b]).steps
    s.table.freeSlots
  rw [State.makeSpawn, htable]
  rfl

/-- The slots that a spawn takes: as many of the free pool, lowest first, as the binding has steps (R12). -/
def State.takenBy (s : State) (b : BindingIx) : List SlotIx := s.table.freeSlots.take (s.bindings[b]).steps.length

theorem State.takenBy_length {s : State} {b : BindingIx} (h : (s.bindings[b]).steps.length ≤ s.table.freeCount) :
    (s.takenBy b).length = (s.bindings[b]).steps.length :=
  List.length_take_of_le h

theorem State.makeSpawn_slot_of_not_mem (s : State) {b : BindingIx} (stampT stampP : Word) {j : SlotIx}
    (h : j ∉ s.takenBy b) : (s.makeSpawn b stampT stampP).table.slot j = s.table.slot j :=
  s.table.writeSpawn_slot_of_not_mem _ stampT stampP h

/-- Each step's record stands in the slot taken for it, timed from the stamp (R134). -/
theorem State.makeSpawn_slot_of_mem (s : State) {b : BindingIx} (stampT stampP : Word) {p : SlotIx × SpawnStep}
    (h : p ∈ (s.takenBy b).zip (s.bindings[b]).steps) :
    (s.makeSpawn b stampT stampP).table.slot p.1 = { s.table.slot p.1 with
      content := some (spawnRecord (.binding b (s.bindings[b]).ordinal) stampT stampP p.2) } := by
  have hzip : (s.takenBy b).zip (s.bindings[b]).steps =
      (s.table.freeSlots.zip (s.bindings[b]).steps).take (s.bindings[b]).steps.length := by
    rw [List.zip_eq_zipWith, List.zip_eq_zipWith, List.take_zipWith, List.take_length, State.takenBy]
  exact s.table.writeSpawn_slot_of_mem _ stampT stampP s.table.freeSlots_nodup (List.mem_of_mem_take (hzip ▸ h))

/-- Settles O44: the selection, which its order and its members fix, the four failures in their order, and the spawn that
takes its slots. -/
theorem spawnTakesAllOrNone : Obligations.SpawnTakesAllOrNone := by
  refine ⟨fun s h l hmem hsorted => ?selection, fun s b stampT stampP =>
    ⟨fun hn => ?sweep, fun hn hstopped => ?stopped, fun hn hstopped hhoming => ?homing,
      fun hn hstopped hhoming hpool => ?pool, fun hn hstopped hhoming hpool => ?spawned⟩⟩
  case selection =>
    have hselected : s.selected h.input = l := (s.selected_pairwise h.input).eq_of_mem_iff hsorted fun b =>
      (s.mem_selected h.input b).trans (hmem b).symm
    rw [State.spawn, hselected]
  case sweep => exact State.spawnOne_of_failure stampT stampP (State.spawnFailure_sweeping hn)
  case stopped => exact State.spawnOne_of_failure stampT stampP (State.spawnFailure_stopped hn hstopped)
  case homing => exact State.spawnOne_of_failure stampT stampP (State.spawnFailure_homing hn hstopped hhoming)
  case pool =>
    exact State.spawnOne_of_failure stampT stampP ((State.spawnFailure_pool hn hstopped hhoming).trans (if_pos hpool))
  case spawned =>
    have hnone := (State.spawnFailure_pool hn hstopped hhoming).trans (if_neg (Nat.not_lt.mpr hpool))
    simp only [State.spawnOne_of_no_failure stampT stampP hnone]
    refine ⟨s.makeSpawn_frame b stampT stampP, s.takenBy b, State.takenBy_length (Nat.le_of_add_left_le hpool),
      s.table.freeSlots_pairwise.sublist (List.take_sublist _ _),
      fun i hi => (s.table.mem_freeSlots i).mp (List.mem_of_mem_take hi),
      fun j hj hnot i hi => s.table.lt_of_mem_take_freeSlots hi hj hnot,
      fun j hj => s.makeSpawn_slot_of_not_mem stampT stampP hj,
      fun p hp => ⟨_, s.makeSpawn_slot_of_mem stampT stampP hp, rfl, rfl, rfl, ?timed, rfl, rfl, rfl, rfl, rfl⟩⟩
    case timed => exact congrArg Phase.armed (aheadOf_eq stampT stampP p.2.what.base p.2.offset)

end Sys2Proof.Machine
end

section
/-! SUPPORT. The bits of a byte that is given out, against the number it shows, and the bytes of a spawn-step image
(R183, Tables 11-2 and 11-3). -/

namespace Sys2Proof.Machine

theorem bit_le_one (b : Bool) : bit b ≤ 1 := by
  cases b <;> decide

/-- A bit of a byte is set where the number it shows has the binary digit 1. -/
theorem u8_getLsbD {n k : Nat} {b : Bool} (hk : k < 8) (h : n / 2 ^ k % 2 = bit b) : (u8 n).getLsbD k = b := by
  rw [u8, BitVec.getLsbD_ofNat, Nat.testBit_eq_decide_div_mod_eq, h]
  cases b <;> simp [hk, bit]

/-- A field of a byte holds its digits of the number that the byte shows. -/
theorem u8_extractLsb' {n k m v : Nat} (hk : k + m ≤ 8) (h : n / 2 ^ k % 2 ^ m = v) :
    (u8 n).extractLsb' k m = BitVec.ofNat m v := by
  refine BitVec.eq_of_toNat_eq ?_
  rw [BitVec.extractLsb'_toNat, u8, BitVec.toNat_ofNat, BitVec.toNat_ofNat, Nat.shiftRight_eq_div_pow, ← h, Nat.mod_mod]
  have hpow : 2 ^ 8 = 2 ^ k * 2 ^ (8 - k) := by rw [← Nat.pow_add, Nat.add_sub_of_le (by omega)]
  rw [hpow, Nat.mod_mul_right_div_self, Nat.mod_mod_of_dvd _ (Nat.pow_dvd_pow 2 (by omega))]

/-- Bits 4 to 7 of an image's first byte, each for itself (Table 11-2). -/
theorem templateBits_eq (w : Template) :
    templateBits w = 16 * bit (w.base ≠ .time) + 32 * bit (w.base = .position .rev) + 64 * bit w.keep
      + 128 * bit (w.miss = .hold) := by
  rw [templateBits]
  congr 2
  rcases w.base with _ | _ | _ <;> rfl

theorem workCode_lt (w : Work) : workCode w < 8 := by
  unfold workCode
  split <;> decide

theorem repeatCode_lt (r : Option Repeat) : repeatCode r < 4 := by
  unfold repeatCode
  split <;> decide

theorem channelCode_lt (w : Work) : channelCode w < 16 := by
  cases w with
  | mark => decide
  | onChannel c a => exact c.isLt

theorem shownChannel_eq (w : Work) : shownChannel w = BitVec.ofNat 4 (channelCode w) := by
  cases w <;> rfl

/-- An image whose first byte holds a template's bits above four others, and whose second byte holds its kind below one other,
lays the template out (Table 11-2). -/
theorem templateLaid_of_bytes {w : Template} {p : List Byte} {n : Nat} {b : Bool} (hn : n < 16)
    (h0 : p.getD 0 0 = u8 (n + templateBits w)) (h1 : p.getD 1 0 = u8 (kindBits w + 128 * bit b)) : TemplateLaid w p := by
  have hposition := bit_le_one (w.base ≠ .time)
  have hrev := bit_le_one (w.base = .position .rev)
  have hkeep := bit_le_one w.keep
  have hmiss := bit_le_one (w.miss = .hold)
  have hwork := workCode_lt w.work
  have hpriority := w.priority.isLt
  have hrep := repeatCode_lt w.rep
  rw [templateBits_eq] at h0
  rw [kindBits] at h1
  refine ⟨?domain, ?direction, ?keep, ?miss, ?kind, ?priority, ?rep⟩
  case domain => rw [h0, u8_getLsbD (b := w.base ≠ .time) (by decide) (by omega), decide_eq_true_iff]
  case direction => rw [h0, u8_getLsbD (b := w.base = .position .rev) (by decide) (by omega), decide_eq_true_iff]
  case keep => rw [h0, u8_getLsbD (b := w.keep) (by decide) (by omega)]
  case miss => rw [h0, u8_getLsbD (b := w.miss = .hold) (by decide) (by omega), decide_eq_true_iff]
  case kind =>
    rw [h1, u8_extractLsb' (v := workCode w.work) (by decide) (by omega)]
    rcases w.work with _ | ⟨c, _ | _ | _ | _ | _⟩ <;> rfl
  case priority => rw [h1, u8_extractLsb' (v := w.priority.val) (by decide) (by omega)]
  case rep =>
    rw [h1, u8_extractLsb' (v := repeatCode w.rep) (by decide) (by omega)]
    rcases w.rep with _ | ⟨k, _ | n⟩ <;> rfl

theorem u8_eq_u8 {m n : Nat} (h : m % 256 = n % 256) : u8 m = u8 n :=
  BitVec.eq_of_toNat_eq (by simpa [u8] using h)

/-- A number of 32 bits goes out as the four bytes of its word (R183). -/
theorem be32_eq_wordBytes (n : Nat) : be32 n = wordBytes (BitVec.ofNat 32 n) := by
  rw [← beWord_eq_wordBytes, beWord, BitVec.toNat_ofNat]
  simp only [be32, List.cons.injEq, and_true]
  exact ⟨u8_eq_u8 (by omega), u8_eq_u8 (by omega), u8_eq_u8 (by omega), u8_eq_u8 (by omega)⟩

/-- A step image's width, or its carrier and cycles (Table 11-3). -/
theorem stepWorkBytes_eq (w : Work) : stepWorkBytes w = match w with
    | .onChannel _ (.pulse n) => twoBytes n
    | .onChannel _ (.burst b) => [BitVec.ofNat 8 b.high, BitVec.ofNat 8 b.low] ++ twoBytes b.cycles
    | _ => [] := by
  rcases w with _ | ⟨c, _ | _ | _ | _ | _⟩ <;> rfl

/-- A step image's interval and remaining count (Table 11-3). -/
theorem stepRepeatBytes_eq (r : Option Repeat) : stepRepeatBytes r = match r with
    | none => []
    | some { interval := k, remaining := some n } => wordBytes (BitVec.ofNat 32 k) ++ twoBytes n
    | some { interval := k, remaining := none } => wordBytes (BitVec.ofNat 32 k) := by
  rcases r with _ | ⟨k, _ | n⟩
  · rfl
  · exact be32_eq_wordBytes k
  · exact congrArg (· ++ be16 n) (be32_eq_wordBytes k)

/-- A spawn-step image is laid out as Table 11-3 gives. -/
theorem stepImage_laid (y : SpawnStep) : StepLaid y (stepImage y) where
  template := templateLaid_of_bytes (b := false) (channelCode_lt y.what.work) rfl rfl
  channel := by
    have hchannel := channelCode_lt y.what.work
    have hfirst : (stepImage y).getD 0 0 = u8 (channelCode y.what.work + templateBits y.what) := rfl
    rw [hfirst, shownChannel_eq, templateBits_eq]
    exact u8_extractLsb' (by decide) (by omega)
  clear := by
    have hwork := workCode_lt y.what.work
    have hpriority := y.what.priority.isLt
    have hrep := repeatCode_lt y.what.rep
    have hsecond : (stepImage y).getD 1 0 = u8 (kindBits y.what) := rfl
    rw [hsecond, kindBits]
    exact u8_getLsbD (by decide) (by rw [bit]; simp; omega)
  rest := by
    have hdrop : (stepImage y).drop 2 = be32 y.offset ++ stepWorkBytes y.what.work ++ stepRepeatBytes y.what.rep := by
      simp [stepImage]
    rw [hdrop]
    exact congrArg₂ (· ++ ·) (congrArg₂ (· ++ ·) (be32_eq_wordBytes y.offset) (stepWorkBytes_eq y.what.work))
      (stepRepeatBytes_eq y.what.rep)

end Sys2Proof.Machine
end

section
/-! SUPPORT. What the field checks of R89 and R123 accept, and the template that they make of it. -/

namespace Sys2Proof.Machine

theorem distanceInRange_iff {d : Domain} {n : Nat} : distanceInRange d n = true ↔ 1 ≤ n ∧ n ≤ Config.horizon d := by
  simp [distanceInRange]

theorem widthInRange_iff {n : Nat} : widthInRange n = true ↔ 1 ≤ n ∧ n ≤ 65535 := by
  simp [widthInRange]

theorem burstInRange_iff {b : BurstItems} : burstInRange b = true ↔ b.InRange := by
  simp [burstInRange, BurstItems.InRange, and_assoc]

/-- A direction is given exactly for POSITION, and is then the base's (R89). -/
theorem checkBase_eq_some_iff {d : Domain} {dir : Option Dir} {b : Base} :
    checkBase d dir = some b ↔ (d = .position ↔ dir ≠ none) ∧ b = match d, dir with
      | .position, some x => .position x
      | _, _ => .time := by
  cases d <;> cases dir <;> simp [checkBase, eq_comm]

theorem checkBase_domain {d : Domain} {dir : Option Dir} {b : Base} (h : checkBase d dir = some b) : b.domain = d := by
  unfold checkBase at h
  split at h <;> cases h <;> rfl

/-- A kind's parameters are given exactly where it has them, and in range (R89). -/
theorem checkWork_eq_some_iff {k : Kind} {c w : Option Nat} {b : Option BurstItems} {x : Work} :
    checkWork k c w b = some x ↔
      (k = .mark ∧ c = none ∧ w = none ∧ b = none ∧ x = .mark)
      ∨ ∃ ch : ChannelIx, c = some ch.val ∧
        ((w = none ∧ b = none ∧ ((k = .assert ∧ x = .onChannel ch .assert) ∨ (k = .release ∧ x = .onChannel ch .release)
            ∨ (k = .toggle ∧ x = .onChannel ch .toggle)))
        ∨ (∃ n, k = .pulse ∧ w = some n ∧ b = none ∧ (1 ≤ n ∧ n ≤ 65535) ∧ x = .onChannel ch (.pulse n))
        ∨ (∃ y, k = .burst ∧ w = none ∧ b = some y ∧ y.InRange
            ∧ x = .onChannel ch (.burst { high := y.high, low := y.low, cycles := y.cycles }))) := by
  constructor
  · intro h
    unfold checkWork at h
    split at h
    case h_1 => exact .inl ⟨rfl, rfl, rfl, rfl, (Option.some.inj h).symm⟩
    case h_2 | h_3 | h_4 =>
      obtain ⟨ch, hch, rfl⟩ := Option.map_eq_some_iff.mp h
      exact .inr ⟨ch, congrArg some (finOf_eq_some.mp hch), by simp⟩
    case h_5 | h_6 =>
      split_ifs at h with hrange
      obtain ⟨ch, hch, rfl⟩ := Option.map_eq_some_iff.mp h
      exact .inr ⟨ch, congrArg some (finOf_eq_some.mp hch), by simpa [widthInRange_iff, burstInRange_iff] using hrange⟩
    case h_7 => cases h
  · have hch (ch : ChannelIx) : finOf 16 ch.val = some ch := finOf_eq_some.mpr rfl
    rintro (⟨rfl, rfl, rfl, rfl, rfl⟩ | ⟨ch, rfl, ⟨rfl, rfl, ⟨rfl, rfl⟩ | ⟨rfl, rfl⟩ | ⟨rfl, rfl⟩⟩
      | ⟨n, rfl, rfl, rfl, hn, rfl⟩ | ⟨y, rfl, rfl, rfl, hy, rfl⟩⟩)
    case inr.inr.inl => simp [checkWork, hch, widthInRange_iff.mpr hn]
    case inr.inr.inr => simp [checkWork, hch, burstInRange_iff.mpr hy]
    all_goals simp [checkWork, hch]

/-- The repeat field is what a repeat item says (R91, R134). -/
def RepeatItemsGive (x : RepeatItems) (y : Repeat) : Prop :=
  y.interval = x.interval ∧ (∀ n, x.run = some (.counted n) → y.remaining = some n)
    ∧ (x.run = some .endless → y.remaining = none)

/-- A repeat item is accepted in range, with a remaining count or endless, and then gives the field (R89). -/
theorem checkRepeatItems_eq_some_iff {x : RepeatItems} {d : Domain} {y : Repeat} :
    checkRepeatItems x d = some y ↔ x.InRange d ∧ RepeatItemsGive x y := by
  obtain ⟨interval, run⟩ := x
  obtain ⟨interval', remaining⟩ := y
  by_cases hd : distanceInRange d interval = true
  · obtain ⟨h1, hhorizon⟩ := distanceInRange_iff.mp hd
    rcases run with _ | n | _
    · simp [checkRepeatItems, RepeatItems.InRange]
    · by_cases hn : n ≤ 65535 <;>
        simp [checkRepeatItems, RepeatItems.InRange, RepeatItemsGive, hd, h1, hhorizon, hn, eq_comm]
    · simp [checkRepeatItems, RepeatItems.InRange, RepeatItemsGive, hd, h1, hhorizon, eq_comm]
  · have hout : ¬ (RepeatItems.mk interval run).InRange d := fun ⟨h1, hhorizon, _⟩ =>
      hd (distanceInRange_iff.mpr ⟨h1, hhorizon⟩)
    simp [checkRepeatItems, hd, hout]

theorem checkRepeat_none_iff {d : Domain} {z : Option Repeat} : checkRepeat d none = some z ↔ z = none := by
  simp [checkRepeat, eq_comm]

theorem checkRepeat_some_iff {d : Domain} {x : RepeatItems} {z : Option Repeat} :
    checkRepeat d (some x) = some z ↔ ∃ y, z = some y ∧ x.InRange d ∧ RepeatItemsGive x y := by
  simp only [checkRepeat, Option.map_eq_some_iff, checkRepeatItems_eq_some_iff]
  exact exists_congr fun y => by rw [and_comm, eq_comm]

/-- The items are accepted exactly where each of the four checks accepts its own, and the template is what they make. -/
theorem checkRecord_eq_some_iff {i : RecordItems} {w : Template} :
    checkRecord i = some w ↔ checkBase i.domain i.direction = some w.base
      ∧ checkWork i.kind i.channel i.width i.burst = some w.work ∧ i.priority = w.priority.val
      ∧ checkRepeat i.domain i.rep = some w.rep ∧ w.keep = i.keep ∧ w.miss = i.miss := by
  rw [← finOf_eq_some]
  unfold checkRecord
  constructor
  · intro h
    split at h
    · next hbase hwork hpriority hrep =>
      cases h
      exact ⟨hbase, hwork, hpriority, hrep, rfl, rfl⟩
    · cases h
  · rintro ⟨hbase, hwork, hpriority, hrep, hkeep, hmiss⟩
    rw [hbase, hwork, hpriority, hrep, ← hkeep, ← hmiss]

/-- The template made of accepted items is what they say (R91, R134). -/
theorem gives_of_checkRecord {i : RecordItems} {w : Template} (h : checkRecord i = some w) : i.Gives w := by
  obtain ⟨hbase, hwork, hpriority, hrep, hkeep, hmiss⟩ := checkRecord_eq_some_iff.mp h
  refine ⟨(checkBase_eq_some_iff.mp hbase).2, ?work, hpriority.symm, ?rep, hkeep, hmiss⟩
  case work =>
    rcases checkWork_eq_some_iff.mp hwork with ⟨hk, -, -, -, hx⟩ | ⟨c, hc, ⟨-, -, ⟨hk, hx⟩ | ⟨hk, hx⟩ | ⟨hk, hx⟩⟩
      | ⟨n, hk, hw, -, -, hx⟩ | ⟨b, hk, -, hb, -, hx⟩⟩ <;> rw [hk]
    · exact hx
    · exact ⟨c, hc, hx⟩
    · exact ⟨c, hc, hx⟩
    · exact ⟨c, hc, hx⟩
    · exact ⟨c, n, hc, hw, hx⟩
    · exact ⟨c, b, hc, hb, hx⟩
  case rep =>
    cases hr : i.rep with
    | none => exact checkRepeat_none_iff.mp (hr ▸ hrep)
    | some x =>
      obtain ⟨y, hy, -, hgives⟩ := checkRepeat_some_iff.mp (hr ▸ hrep)
      exact ⟨y, hy, hgives⟩

/-- Accepted parameters are those that the kind has, in range (R89). -/
theorem parameters_of_checkWork {i : RecordItems} {x : Work}
    (h : checkWork i.kind i.channel i.width i.burst = some x) :
    (i.kind = .mark → i.channel = none) ∧ (i.kind ≠ .mark → ∃ c, i.channel = some c ∧ c ≤ 15)
    ∧ (i.kind = .pulse → ∃ w, i.width = some w ∧ 1 ≤ w ∧ w ≤ 65535) ∧ (i.kind ≠ .pulse → i.width = none)
    ∧ (i.kind = .burst → ∃ b, i.burst = some b ∧ b.InRange) ∧ (i.kind ≠ .burst → i.burst = none) := by
  rcases checkWork_eq_some_iff.mp h with ⟨hk, hc, hw, hb, -⟩ | ⟨c, hc, hkinds⟩
  · simp [hk, hc, hw, hb]
  · have hc15 : c.val ≤ 15 := Nat.le_of_lt_succ c.isLt
    rcases hkinds with ⟨hw, hb, ⟨hk, -⟩ | ⟨hk, -⟩ | ⟨hk, -⟩⟩ | ⟨n, hk, hw, hb, hn, -⟩ | ⟨y, hk, hw, hb, hy, -⟩
    · simp [hk, hc, hw, hb, hc15]
    · simp [hk, hc, hw, hb, hc15]
    · simp [hk, hc, hw, hb, hc15]
    · simp [hk, hc, hw, hb, hc15, hn]
    · simp [hk, hc, hw, hb, hc15, hy]

/-- Accepted items meet the tables of R89 and R123. -/
theorem meets_of_checkRecord {i : RecordItems} {w : Template} (h : checkRecord i = some w) : i.Meets := by
  obtain ⟨hbase, hwork, hpriority, hrep, -⟩ := checkRecord_eq_some_iff.mp h
  obtain ⟨hnoChannel, hchannel, hwidth, hnoWidth, hburst, hnoBurst⟩ := parameters_of_checkWork hwork
  refine ⟨(checkBase_eq_some_iff.mp hbase).1, hnoChannel, hchannel, hwidth, hnoWidth, hburst, hnoBurst,
    hpriority ▸ Nat.le_of_lt_succ w.priority.isLt, fun x hx => ?_⟩
  obtain ⟨y, -, hrange, -⟩ := checkRepeat_some_iff.mp (hx ▸ hrep)
  exact hrange

/-- Parameters that meet the tables are accepted (R89). -/
theorem exists_checkWork_of_meets {i : RecordItems} (h : i.Meets) :
    ∃ x, checkWork i.kind i.channel i.width i.burst = some x := by
  have hchannel (hk : i.kind ≠ .mark) : ∃ c : ChannelIx, i.channel = some c.val := by
    obtain ⟨c, hc, hc15⟩ := h.channel hk
    exact ⟨⟨c, Nat.lt_succ_of_le hc15⟩, hc⟩
  simp only [checkWork_eq_some_iff]
  cases hk : i.kind with
  | mark =>
    exact ⟨.mark, .inl ⟨rfl, h.no_channel hk, h.no_width (by simp [hk]), h.no_burst (by simp [hk]), rfl⟩⟩
  | pulse =>
    obtain ⟨c, hc⟩ := hchannel (by simp [hk])
    obtain ⟨n, hw, hn⟩ := h.width hk
    exact ⟨_, .inr ⟨c, hc, .inr (.inl ⟨n, rfl, hw, h.no_burst (by simp [hk]), hn, rfl⟩)⟩⟩
  | burst =>
    obtain ⟨c, hc⟩ := hchannel (by simp [hk])
    obtain ⟨b, hb, hrange⟩ := h.burst hk
    exact ⟨_, .inr ⟨c, hc, .inr (.inr ⟨b, rfl, h.no_width (by simp [hk]), hb, hrange, rfl⟩)⟩⟩
  | assert =>
    obtain ⟨c, hc⟩ := hchannel (by simp [hk])
    exact ⟨_, .inr ⟨c, hc, .inl ⟨h.no_width (by simp [hk]), h.no_burst (by simp [hk]), .inl ⟨rfl, rfl⟩⟩⟩⟩
  | release =>
    obtain ⟨c, hc⟩ := hchannel (by simp [hk])
    exact ⟨_, .inr ⟨c, hc, .inl ⟨h.no_width (by simp [hk]), h.no_burst (by simp [hk]), .inr (.inl ⟨rfl, rfl⟩)⟩⟩⟩
  | toggle =>
    obtain ⟨c, hc⟩ := hchannel (by simp [hk])
    exact ⟨_, .inr ⟨c, hc, .inl ⟨h.no_width (by simp [hk]), h.no_burst (by simp [hk]), .inr (.inr ⟨rfl, rfl⟩)⟩⟩⟩

/-- A repeat that meets the tables is accepted (R89). -/
theorem exists_checkRepeat_of_meets {i : RecordItems} (h : i.Meets) :
    ∃ z, checkRepeat i.domain i.rep = some z := by
  cases hr : i.rep with
  | none => exact ⟨none, rfl⟩
  | some x =>
    have hrange := h.rep x hr
    have ⟨_, _, hrun⟩ := hrange
    obtain hend | ⟨n, -, hcounted⟩ := hrun
    · exact ⟨_, checkRepeat_some_iff.mpr ⟨⟨x.interval, none⟩, rfl, hrange, by simp [RepeatItemsGive, hend]⟩⟩
    · exact ⟨_, checkRepeat_some_iff.mpr ⟨⟨x.interval, some n⟩, rfl, hrange, by simp [RepeatItemsGive, hcounted]⟩⟩

/-- Items that meet the tables are accepted (R89, R123). -/
theorem exists_checkRecord_of_meets {i : RecordItems} (h : i.Meets) : ∃ w, checkRecord i = some w := by
  obtain ⟨base, hbase⟩ : ∃ b, checkBase i.domain i.direction = some b :=
    ⟨_, checkBase_eq_some_iff.mpr ⟨h.direction, rfl⟩⟩
  obtain ⟨work, hwork⟩ := exists_checkWork_of_meets h
  obtain ⟨rep, hrep⟩ := exists_checkRepeat_of_meets h
  exact ⟨⟨base, work, ⟨i.priority, Nat.lt_succ_of_le h.priority⟩, rep, i.keep, i.miss⟩,
    checkRecord_eq_some_iff.mpr ⟨hbase, hwork, rfl, hrep, rfl, rfl⟩⟩

/-- A step that meets R123. -/
def StepMeets (x : StepItems) : Prop := x.items.Meets ∧ 1 ≤ x.offset ∧ x.offset ≤ Config.horizon x.items.domain

theorem checkStep_eq_some_iff {x : StepItems} {y : SpawnStep} :
    checkStep x = some y ↔ checkRecord x.items = some y.what
      ∧ (1 ≤ x.offset ∧ x.offset ≤ Config.horizon x.items.domain) ∧ y.offset = x.offset := by
  unfold checkStep
  cases hw : checkRecord x.items with
  | none => simp
  | some w =>
    have hdomain : w.base.domain = x.items.domain := checkBase_domain (checkRecord_eq_some_iff.mp hw).1
    obtain ⟨what, offset⟩ := y
    simp only [hdomain, ← distanceInRange_iff]
    by_cases hd : distanceInRange x.items.domain x.offset = true <;> simp [hd, eq_comm]

/-- A step is accepted exactly where it meets R123. -/
theorem exists_checkStep_iff {x : StepItems} : (∃ y, checkStep x = some y) ↔ StepMeets x := by
  constructor
  · rintro ⟨y, hy⟩
    obtain ⟨hrecord, hoffset, -⟩ := checkStep_eq_some_iff.mp hy
    exact ⟨meets_of_checkRecord hrecord, hoffset⟩
  · rintro ⟨hitems, hoffset⟩
    obtain ⟨w, hw⟩ := exists_checkRecord_of_meets hitems
    exact ⟨⟨w, x.offset⟩, checkStep_eq_some_iff.mpr ⟨hw, hoffset, rfl⟩⟩

theorem checkSteps_cons_eq_some_iff {x : StepItems} {l : List StepItems} {z : List SpawnStep} :
    checkSteps (x :: l) = some z ↔ ∃ y ys, checkStep x = some y ∧ checkSteps l = some ys ∧ z = y :: ys := by
  rw [checkSteps]
  cases checkStep x <;> cases checkSteps l <;> simp [eq_comm]

/-- A list of steps is accepted step by step (R123). -/
theorem checkSteps_eq_some_iff {l : List StepItems} {ys : List SpawnStep} :
    checkSteps l = some ys ↔ List.Forall₂ (fun x y => checkStep x = some y) l ys := by
  induction l generalizing ys with
  | nil => simp [checkSteps, eq_comm]
  | cons x l ih => simp only [checkSteps_cons_eq_some_iff, List.forall₂_cons_left_iff, ih]

/-- A list of steps is accepted exactly where each step meets R123. -/
theorem exists_checkSteps_iff {l : List StepItems} : (∃ ys, checkSteps l = some ys) ↔ ∀ x ∈ l, StepMeets x := by
  induction l with
  | nil => simp [checkSteps]
  | cons x l ih =>
    rw [List.forall_mem_cons, ← ih, ← exists_checkStep_iff]
    simp [checkSteps_cons_eq_some_iff]

/-- Accepted steps are what their items say, one for one (R123, R134). -/
theorem checkSteps_gives {l : List StepItems} {ys : List SpawnStep} (h : checkSteps l = some ys) :
    ys.length = l.length ∧ ∀ p ∈ l.zip ys, p.1.items.Gives p.2.what ∧ p.2.offset = p.1.offset := by
  obtain ⟨hlength, hsteps⟩ := List.forall₂_iff_zip.mp (checkSteps_eq_some_iff.mp h)
  refine ⟨hlength.symm, fun p hp => ?_⟩
  obtain ⟨hrecord, -, hoffset⟩ := checkStep_eq_some_iff.mp (hsteps hp)
  exact ⟨gives_of_checkRecord hrecord, hoffset⟩

end Sys2Proof.Machine
end

section
/-! PROOF. BIND_WRITE (R125), BIND_ENABLE (R127) and BIND_READ (R130): one lemma for each way a request's checks can go, and the
obligation assembled from them. -/

namespace Sys2Proof.Machine

theorem exec_bindWrite (tag : Byte) (p : Payload BindWriteItems) (s : State) :
    exec (.bindWrite tag p) s = .next (s.submit tag (fun s => withItems p s bindWriteClaim)) := rfl

theorem exec_bindEnable (tag : Byte) (p : Payload Nat) (s : State) :
    exec (.bindEnable tag p) s = .next (s.submit tag (fun s => withItems p s bindEnableClaim)) := rfl

theorem exec_bindRead (tag : Byte) (p : Payload Nat) (s : State) :
    exec (.bindRead tag p) s = .next (s.submit tag (fun s => withItems p s bindReadClaim)) := rfl

/-! ### BIND_WRITE -/

/-- The input, the number of steps and each step meet R125. -/
def BindWriteMeets (a : BindWriteItems) : Prop :=
  a.input ≤ 7 ∧ 1 ≤ a.steps.length ∧ a.steps.length ≤ 4 ∧ ∀ y ∈ a.steps, StepMeets y

/-- The binding with a new recipe (R125). -/
def Binding.rewritten (x : Binding) (n : SenseIx) (steps : List SpawnStep) : Binding :=
  { x with input := n, steps := steps, ordinal := 0, fails := 0, lastFail := none }

theorem stepCount_ok_iff {k : Nat} : (!(decide (1 ≤ k) && decide (k ≤ 4))) = true ↔ ¬ (1 ≤ k ∧ k ≤ 4) := by
  rw [← Bool.decide_and, Bool.not_eq_true', decide_eq_false_iff_not]

theorem bindWriteClaim_refused {a : BindWriteItems} (h : 15 < a.binding ∨ ¬ BindWriteMeets a) (s : State) :
    bindWriteClaim a s = refuse s .badField := by
  unfold bindWriteClaim
  split
  · next b n steps hb hn hsteps =>
    refine if_pos (stepCount_ok_iff.mpr fun ⟨h1, h4⟩ => ?_)
    rw [(checkSteps_gives hsteps).1] at h1 h4
    have hinput : a.input ≤ 7 := (finOf_eq_some.mp hn).trans_le (Nat.le_of_lt_succ n.isLt)
    have hbinding : ¬ 15 < a.binding := by
      rw [finOf_eq_some.mp hb]
      exact Nat.not_lt.mpr (Nat.le_of_lt_succ b.isLt)
    exact h.resolve_left hbinding ⟨hinput, h1, h4, exists_checkSteps_iff.mp ⟨steps, hsteps⟩⟩
  · rfl

/-- Where the fields are good, only the enable and the live count are left to look at (R125). -/
theorem bindWriteClaim_of_meets {a : BindWriteItems} (ha : BindWriteMeets a) {b : BindingIx} {n : SenseIx}
    {steps : List SpawnStep} (hb : a.binding = b.val) (hn : a.input = n.val) (hsteps : checkSteps a.steps = some steps)
    (s : State) :
    bindWriteClaim a s =
      if s.bindings[b].enabled then refuse s .state
      else if 0 < s.bindings[b].live then refuse s .busy
      else answer (s.setBinding b (s.bindings[b].rewritten n steps)) [] := by
  obtain ⟨-, h1, h4, -⟩ := ha
  rw [← (checkSteps_gives hsteps).1] at h1 h4
  simp only [bindWriteClaim, finOf_eq_some.mpr hb, finOf_eq_some.mpr hn, hsteps]
  exact if_neg (mt stepCount_ok_iff.mp (not_not.mpr ⟨h1, h4⟩))

/-! ### BIND_ENABLE and BIND_READ -/

theorem bindEnableClaim_out_of_range {n : Nat} (h : 15 < n) (s : State) : bindEnableClaim n s = refuse s .badField := by
  rw [bindEnableClaim, finOf_eq_none.mpr (Nat.succ_le_of_lt h)]

theorem bindEnableClaim_in_range {n : Nat} {b : BindingIx} (h : n = b.val) (s : State) :
    bindEnableClaim n s =
      if s.bindings[b].steps.isEmpty then refuse s .state
      else answer (s.setBinding b { s.bindings[b] with enabled := true }) [] := by
  rw [bindEnableClaim, finOf_eq_some.mpr h]

theorem bindReadClaim_out_of_range {n : Nat} (h : 15 < n) (s : State) : bindReadClaim n s = refuse s .badField := by
  rw [bindReadClaim, finOf_eq_none.mpr (Nat.succ_le_of_lt h)]

theorem bindReadClaim_in_range {n : Nat} {b : BindingIx} (h : n = b.val) (s : State) :
    bindReadClaim n s = answer s (bindingImage b s.bindings[b]) := by
  rw [bindReadClaim, finOf_eq_some.mpr h]

/-- BIND_READ's payload, byte by byte (R130, Table 11-1). -/
theorem bindingImage_eq (b : BindingIx) (x : Binding) :
    bindingImage b x =
      [BitVec.ofNat 8 b.val, BitVec.ofNat 8 x.input.val, if x.enabled = true then 1 else 0] ++ twoBytes x.ordinal
        ++ [BitVec.ofNat 8 x.live] ++ twoBytes x.fails
        ++ [match x.lastFail with
            | none => 0
            | some .pool => 1
            | some .tbStopped => 2
            | some .homing => 3
            | some .sweep => 4, BitVec.ofNat 8 x.steps.length] ++ x.steps.flatMap stepImage := by
  have henabled : u8 (bit x.enabled) = if x.enabled = true then 1 else 0 := by cases x.enabled <;> rfl
  have hfail : u8 (failCode x.lastFail) = match x.lastFail with
      | none => 0
      | some .pool => 1
      | some .tbStopped => 2
      | some .homing => 3
      | some .sweep => 4 := by
    rcases x.lastFail with _ | _ | _ | _ | _ <;> rfl
  rw [bindingImage, henabled, hfail]
  rfl

/-- Settles O45: the layout of a step image, BIND_WRITE's checks and its new recipe, then the two requests that carry a binding
number. -/
theorem bindWriteEnableAndRead : Obligations.BindWriteEnableAndRead := by
  refine ⟨stepImage_laid, fun s tag a h => ?write, fun s tag k h => ?enableAndRead⟩
  case write =>
    refine ⟨exec_of_refuse h (exec_bindWrite tag _ s) (withItems_unfit s _),
      fun hbad => exec_of_refuse h (exec_bindWrite tag _ s) (bindWriteClaim_refused hbad s), fun b n hb hn ha => ?_⟩
    have ⟨_, _, _, hmeet⟩ := ha
    obtain ⟨steps, hsteps⟩ := exists_checkSteps_iff.mpr hmeet
    have hclaim := bindWriteClaim_of_meets ha hb hn hsteps s
    refine ⟨fun henabled => ?enabled, fun henabled hlive => ?live, fun henabled hlive =>
      ⟨steps, ?written, checkSteps_gives hsteps⟩⟩
    case enabled => exact exec_of_refuse h (exec_bindWrite tag _ s) (hclaim.trans (if_pos henabled))
    case live =>
      refine exec_of_refuse h (exec_bindWrite tag _ s) (hclaim.trans ?_)
      rw [if_neg (Bool.not_eq_true _ ▸ henabled), if_pos hlive]
    case written =>
      refine exec_of_answer h (exec_bindWrite tag _ s) (hclaim.trans ?_)
      rw [if_neg (Bool.not_eq_true _ ▸ henabled), if_neg (Nat.not_lt.mpr hlive.le)]
      rfl
  case enableAndRead =>
    refine ⟨fun c hc => ?unfit, fun hk c hc => ?outOfRange, fun b hb => ⟨fun hempty => ?empty, fun hsteps => ?enabled,
      ?read⟩⟩
    case unfit =>
      simp only [List.mem_cons, List.not_mem_nil, or_false] at hc
      obtain rfl | rfl := hc
      · exact exec_of_refuse h (exec_bindEnable tag _ s) (withItems_unfit s _)
      · exact exec_of_refuse h (exec_bindRead tag _ s) (withItems_unfit s _)
    case outOfRange =>
      simp only [List.mem_cons, List.not_mem_nil, or_false] at hc
      obtain rfl | rfl := hc
      · exact exec_of_refuse h (exec_bindEnable tag _ s) (bindEnableClaim_out_of_range hk s)
      · exact exec_of_refuse h (exec_bindRead tag _ s) (bindReadClaim_out_of_range hk s)
    case empty =>
      refine exec_of_refuse h (exec_bindEnable tag _ s) ((bindEnableClaim_in_range hb s).trans (if_pos ?_))
      exact List.isEmpty_iff.mpr hempty
    case enabled =>
      refine exec_of_answer h (exec_bindEnable tag _ s) ((bindEnableClaim_in_range hb s).trans (if_neg ?_))
      exact mt List.isEmpty_iff.mp hsteps
    case read =>
      refine exec_of_answer h (exec_bindRead tag _ s) ((bindReadClaim_in_range hb s).trans ?_)
      rw [bindingImage_eq]
      rfl

end Sys2Proof.Machine
end

section
/-! SUPPORT. What retirements make of the bindings (R5): each binding's live count loses its own records that leave the table. -/

namespace Sys2Proof.Machine

/-- The record in slot `i` came from binding `b` and leaves the table when its work ends (R5, R58, R59). -/
def ActionTable.leavesFrom (t : ActionTable) (b : BindingIx) (i : SlotIx) : Bool :=
  (t.recordAt i).any (fun r => r.isFrom b && !r.what.keep)

theorem ActionRecord.isFrom_eq_true_iff {r : ActionRecord} {b : BindingIx} :
    r.isFrom b = true ↔ ∃ n, r.origin = .binding b n := by
  unfold ActionRecord.isFrom
  cases r.origin <;> simp

/-- A record comes from one binding at most (R6). -/
theorem ActionRecord.isFrom_of_ne {r : ActionRecord} {b x : BindingIx} (h : r.isFrom b = true) (hx : x ≠ b) :
    r.isFrom x = false := by
  rw [← Bool.not_eq_true, ActionRecord.isFrom_eq_true_iff]
  obtain ⟨n, hn⟩ := ActionRecord.isFrom_eq_true_iff.mp h
  rintro ⟨m, hm⟩
  exact hx (Origin.binding.inj (hm.symm.trans hn)).1

/-- The live counts after a record has gone: one fewer for the binding it came from (R5). -/
theorem State.dropLive_live_of_record (s : State) (r : ActionRecord) (b : BindingIx) :
    ((s.dropLive r.origin).bindings[b]).live = (s.bindings[b]).live - if r.isFrom b then 1 else 0 := by
  rw [s.dropLive_live, ActionRecord.isFrom]
  cases r.origin with
  | host => rfl
  | binding x n => by_cases h : x = b <;> simp [h]

/-- The end of one record's work changes nothing of a binding but its live count, which loses the record where it came from
that binding and leaves the table (R5, R58, R59). -/
theorem State.finish_binding {s : State} {i : SlotIx} {r : ActionRecord} (hr : s.table.recordAt i = some r)
    (reason : EndReason) (b : BindingIx) :
    (s.finish i r reason).bindings[b] = { s.bindings[b] with
      live := (s.bindings[b]).live - ([i].filter (s.table.leavesFrom b)).length } := by
  have hleaves : s.table.leavesFrom b i = (r.isFrom b && !r.what.keep) := by
    rw [ActionTable.leavesFrom, hr, Option.any_some]
  rw [List.filter_singleton, hleaves]
  cases hkeep : r.what.keep with
  | true =>
    rw [s.finish_of_keep i reason hkeep, Bool.not_true, Bool.and_false]
    rfl
  | false =>
    rw [s.finish_of_not_keep i reason hkeep, State.freeSlot, State.dropLive_binding, State.dropLive_live_of_record]
    cases r.isFrom b <;> rfl

/-- Retirements change nothing of a binding but its live count, which loses the binding's records that leave the table
(R5, R129). -/
theorem State.retireAll_binding {s : State} {l : List SlotIx} (hl : l.Nodup) (h : ∀ i ∈ l, s.table.Retirable i)
    (reason : EndReason) (b : BindingIx) :
    (s.retireAll reason l).bindings[b] = { s.bindings[b] with
      live := (s.bindings[b]).live - (l.filter (s.table.leavesFrom b)).length } := by
  induction l generalizing s with
  | nil => rfl
  | cons i rest ih =>
    obtain ⟨hi, hrest⟩ := List.nodup_cons.mp hl
    obtain ⟨hdone, r, hr, hactive⟩ := h i List.mem_cons_self
    have hfirst := State.finish_retiredInOrder hr hdone reason
    have hother : ∀ j ∈ rest, j ∉ [i] := fun j hj hji => hi (List.mem_singleton.mp hji ▸ hj)
    have hleaves : rest.filter ((s.finish i r reason).table.leavesFrom b) = rest.filter (s.table.leavesFrom b) :=
      List.filter_congr fun j hj => by
        rw [ActionTable.leavesFrom, ActionTable.leavesFrom, hfirst.recordAt (hother j hj)]
    have hsum : ((i :: rest).filter (s.table.leavesFrom b)).length =
        ([i].filter (s.table.leavesFrom b)).length + (rest.filter (s.table.leavesFrom b)).length := by
      rw [← List.length_append, ← List.filter_append, List.singleton_append]
    rw [State.retireAll_cons hr hactive,
      ih hrest fun j hj => hfirst.retirable (hother j hj) (h j (List.mem_cons_of_mem i hj)), hleaves,
      State.finish_binding hr, hsum, Nat.sub_add_eq]

/-- The collections are of the table alone (R17, R20, R21). -/
theorem CollectionsExact.of_table_eq {s t : State} (hs : CollectionsExact s) (h : t.table = s.table) :
    CollectionsExact t := by
  obtain ⟨hsuspended, hdone, hsuspendedIff, hdoneIff⟩ := hs
  exact ⟨h ▸ hsuspended, h ▸ hdone, h ▸ hsuspendedIff, h ▸ hdoneIff⟩

end Sys2Proof.Machine
end

section
/-! PROOF. BIND_DISABLE (R128, R129): its checks, and with the retire option the records it retires and the live counts. -/

namespace Sys2Proof.Machine

/-- Binding `b` disabled, and nothing else changed (R128). -/
def State.disableBinding (s : State) (b : BindingIx) : State :=
  s.setBinding b { s.bindings[b] with enabled := false }

theorem bindDisableClaim_out_of_range {a : BindDisableItems} (h : 15 < a.binding) (s : State) :
    bindDisableClaim a s = refuse s .badField := by
  simp only [bindDisableClaim, finOf_eq_none.mpr (Nat.succ_le_of_lt h)]

/-- For a binding from 0 to 15 only the retire option is left to look at (R128, R129). -/
theorem bindDisableClaim_in_range {a : BindDisableItems} {b : BindingIx} (h : a.binding = b.val) (s : State) :
    bindDisableClaim a s =
      if a.retire then
        answer ((s.disableBinding b).retireAll .bindingRetired (s.table.spawnedBy b)).reportLevels
          [u8 (s.table.spawnedBy b).length]
      else answer (s.disableBinding b) [0] := by
  simp only [bindDisableClaim, finOf_eq_some.mpr h]
  rfl

theorem exec_bindDisable (tag : Byte) (p : Payload BindDisableItems) (s : State) :
    exec (.bindDisable tag p) s = .next (s.submit tag (fun s => withItems p s bindDisableClaim)) := rfl

/-- The record in slot `i` is an ARMED or SUSPENDED one of binding `b` (R129). -/
def ActionTable.isSpawnedBy (t : ActionTable) (b : BindingIx) (i : SlotIx) : Bool :=
  (t.recordAt i).any (fun r => (r.phase.isArmed || r.phase.isSuspended) && r.isFrom b)

theorem ActionTable.spawnedBy_eq_filter (t : ActionTable) (b : BindingIx) :
    t.spawnedBy b = (List.finRange 128).filter (t.isSpawnedBy b) := rfl

/-- ARMED and SUSPENDED records can be retired (R94). -/
theorem Phase.isActive_of_waiting {p : Phase} (h : (p.isArmed || p.isSuspended) = true) : p.isActive = true := by
  cases p with
  | done => cases h
  | _ => rfl

theorem ActionTable.isSpawnedBy_eq_true_iff {t : ActionTable} {b : BindingIx} {i : SlotIx} :
    t.isSpawnedBy b i = true ↔
      ∃ r, t.recordAt i = some r ∧ (r.phase.isArmed || r.phase.isSuspended) = true ∧ r.isFrom b = true := by
  simp only [ActionTable.isSpawnedBy, Option.any_eq_true, Bool.and_eq_true]

/-- No record of binding `b` leaves from another binding's live count (R6). -/
theorem ActionTable.spawnedBy_leavesFrom_of_ne (t : ActionTable) {b x : BindingIx} (h : x ≠ b) :
    (t.spawnedBy b).filter (t.leavesFrom x) = [] := by
  refine List.filter_eq_nil_iff.mpr fun i hi hleaves => ?_
  obtain ⟨r, hr, -, hfrom⟩ := ActionTable.isSpawnedBy_eq_true_iff.mp (List.mem_filter.mp hi).2
  rw [ActionTable.leavesFrom, hr, Option.any_some, r.isFrom_of_ne hfrom h] at hleaves
  cases hleaves

/-- Of the records of binding `b`, those without keep leave its live count (R5). -/
theorem ActionTable.spawnedBy_leavesFrom (t : ActionTable) (b : BindingIx) :
    (t.spawnedBy b).filter (t.leavesFrom b) =
      (List.finRange 128).filter (fun i => t.isSpawnedBy b i && (t.recordAt i).any (fun r => !r.what.keep)) := by
  rw [t.spawnedBy_eq_filter, List.filter_filter]
  refine List.filter_congr fun i _ => ?_
  rw [ActionTable.leavesFrom, ActionTable.isSpawnedBy]
  cases t.recordAt i with
  | none => rfl
  | some r =>
    simp only [Option.any_some]
    rw [Bool.and_comm, Bool.and_assoc, ← Bool.and_assoc (r.isFrom b), Bool.and_self, Bool.and_assoc]

/-- The bindings after BIND_DISABLE with the retire option: only `b` has changed, in its enable and its live count
(R128, R129). -/
theorem State.disable_retire_bindings {s : State} (hs : CollectionsExact s) (b x : BindingIx) :
    ((s.disableBinding b).retireAll .bindingRetired (s.table.spawnedBy b)).bindings[x] =
      if x = b then { s.bindings[b] with
        enabled := false
        live := (s.bindings[b]).live - ((s.table.spawnedBy b).filter (s.table.leavesFrom b)).length }
      else s.bindings[x] := by
  have hretirable : ∀ i ∈ s.table.spawnedBy b, (s.disableBinding b).table.Retirable i := by
    intro i hi
    obtain ⟨r, hr, hwaits, -⟩ := ActionTable.isSpawnedBy_eq_true_iff.mp (List.mem_filter.mp hi).2
    exact hs.retirable hr (Phase.isActive_of_waiting hwaits)
  have hnodup : (s.table.spawnedBy b).Nodup := s.table.slotsWith_nodup _
  rw [State.retireAll_binding hnodup hretirable]
  by_cases h : x = b
  · subst h
    simp [State.disableBinding]
  · have h' : b.val ≠ x.val := fun e => h (Fin.ext e).symm
    simp [State.disableBinding, h, h', s.table.spawnedBy_leavesFrom_of_ne h]

/-- Settles O46: the two refusals, the disabling alone, and the disabling with the retirement of the binding's records, whose
live counts the fold over the slots gives. -/
theorem bindDisableRetiresOnRequest : Obligations.BindDisableRetiresOnRequest := by
  intro s tag a h hs
  refine ⟨exec_of_refuse h (exec_bindDisable tag _ s) (withItems_unfit s _),
    fun hb => exec_of_refuse h (exec_bindDisable tag _ s) (bindDisableClaim_out_of_range hb s), fun b hb => ⟨fun hkept => ?kept,
      fun hretire => ⟨(s.disableBinding b).retireAll .bindingRetired (s.table.spawnedBy b), ?together, fun x hx => ?others,
        ?own, ?answer⟩⟩⟩
  case kept =>
    refine exec_of_answer h (exec_bindDisable tag _ s) ((bindDisableClaim_in_range hb s).trans ?_)
    rw [hkept, if_neg Bool.false_ne_true]
    rfl
  case together =>
    exact State.retireAll_retiredTogether (s := s.disableBinding b) (hs.of_table_eq rfl)
      (fun r hr => Phase.isActive_of_waiting (Bool.and_eq_true_iff.mp hr).1) _
  case others => rw [State.disable_retire_bindings hs, if_neg hx]
  case own =>
    rw [State.disable_retire_bindings hs, if_pos rfl, s.table.spawnedBy_leavesFrom]
    rfl
  case answer =>
    exact exec_of_answer h (exec_bindDisable tag _ s) ((bindDisableClaim_in_range hb s).trans (if_pos hretire))

end Sys2Proof.Machine
end

end

section
/-! SUPPORT. Several raises of one cause in one claim, as that many raises one after another (R160). -/

namespace Sys2Proof.Machine

@[simp] theorem Attention.put_put (a : Attention) (c : Cause) (x y : CauseState) : (a.put c x).put c y = a.put c y := by
  simp [Attention.put]

/-- One raise after several, none included, is one more of them: the count stops at 255 in either reckoning (R160). -/
theorem Attention.raiseTimes_succ (a : Attention) (c : Cause) (n : Nat) :
    a.raiseTimes c (n + 1) = (a.raiseTimes c n).raise c := by
  cases n with
  | zero => rfl
  | succ k =>
    have hcount : satAdd 255 (satAdd 255 (a.cause c).count (k + 1)) 1 = satAdd 255 (a.cause c).count (k + 1 + 1) := by
      simp only [satAdd]
      omega
    simp [Attention.raiseTimes, Attention.raise, CauseState.raised, hcount]

theorem Attention.raiseTimes_eq_iterate (a : Attention) (c : Cause) (n : Nat) :
    a.raiseTimes c n = (fun x => x.raise c)^[n] a := by
  induction n with
  | zero => rfl
  | succ k ih => rw [a.raiseTimes_succ, ih, Function.iterate_succ_apply']

end Sys2Proof.Machine
end

section
/-! SUPPORT. The series of values that a catch-up goes through (R150), how far ahead each lies, and that an endless series comes
to a value ahead (R151). -/

namespace Sys2Proof.Machine

/-- The `m`-th value of a catch-up's series after the suspended due value (R150). -/
def seriesValue (b : Base) (interval : Nat) (due : Word) (m : Nat) : Word :=
  if b = .position .rev then due - BitVec.ofNat 32 (m * interval) else due + BitVec.ofNat 32 (m * interval)

@[simp] theorem seriesValue_zero (b : Base) (interval : Nat) (due : Word) : seriesValue b interval due 0 = due := by
  simp [seriesValue]

/-- The series of a value goes on as the series of the next one. -/
theorem seriesValue_succ (b : Base) (interval : Nat) (due : Word) (m : Nat) :
    seriesValue b interval due (m + 1) = seriesValue b interval (advance b due interval) m := by
  have hoffset : BitVec.ofNat 32 ((m + 1) * interval) = BitVec.ofNat 32 interval + BitVec.ofNat 32 (m * interval) := by
    rw [Nat.succ_mul, Nat.add_comm, BitVec.ofNat_add]
  rw [seriesValue, seriesValue, advance_eq_ite, hoffset]
  split_ifs
  · exact (sub_sub due _ _).symm
  · exact (BitVec.add_assoc ..).symm

theorem seriesValue_one (b : Base) (interval : Nat) (due : Word) :
    seriesValue b interval due 1 = advance b due interval := by
  rw [seriesValue_succ, seriesValue_zero]

/-- Each value lies one interval further ahead than the one before it, modulo 2^32, in either direction (R150). -/
theorem distance_seriesValue (b : Base) (tbT tbP : Word) (interval : Nat) (due : Word) (m : Nat) :
    distance b tbT tbP (seriesValue b interval due m) = (distance b tbT tbP due + m * interval) % 2 ^ 32 := by
  have hforward (now : Word) : (due + BitVec.ofNat 32 (m * interval) - now).toNat
      = ((due - now).toNat + m * interval) % 2 ^ 32 := by
    rw [add_sub_right_comm, BitVec.toNat_add, BitVec.toNat_ofNat, Nat.add_mod_mod]
  have hbackward : (tbP - (due - BitVec.ofNat 32 (m * interval))).toNat
      = ((tbP - due).toNat + m * interval) % 2 ^ 32 := by
    rw [sub_sub_eq_add_sub, add_sub_right_comm, BitVec.toNat_add, BitVec.toNat_ofNat, Nat.add_mod_mod]
  match b with
  | .time => exact hforward tbT
  | .position .fwd => exact hforward tbP
  | .position .rev => exact hbackward

theorem distance_lt (b : Base) (tbT tbP due : Word) : distance b tbT tbP due < 2 ^ 32 := by
  unfold distance
  split <;> exact BitVec.isLt _

theorem liesAhead_iff (b : Base) (tbT tbP due : Word) :
    liesAhead b tbT tbP due = true ↔ 1 ≤ distance b tbT tbP due ∧ distance b tbT tbP due ≤ Config.horizon b.domain := by
  rw [liesAhead, Bool.and_eq_true, decide_eq_true_iff, decide_eq_true_iff]

theorem horizon_lt (d : Domain) : Config.horizon d < 2 ^ 32 := by
  cases d <;> decide

/-- The first multiple of a step that passes a mark goes beyond it by no more than one step. -/
theorem exists_first_step_past {start mark step : Nat} (hstep : 1 ≤ step) (hstart : start ≤ mark) :
    ∃ m, 1 ≤ m ∧ m ≤ mark + 1 ∧ mark < start + m * step ∧ start + m * step ≤ mark + step := by
  have hsteps : (mark - start) / step ≤ mark - start := Nat.div_le_self ..
  have hdiv : step * ((mark - start) / step) + (mark - start) % step = mark - start := Nat.div_add_mod ..
  have hmod : (mark - start) % step < step := Nat.mod_lt _ hstep
  have hnext : ((mark - start) / step + 1) * step = step * ((mark - start) / step) + step := by
    rw [Nat.succ_mul, Nat.mul_comm]
  exact ⟨(mark - start) / step + 1, Nat.succ_pos _, Nat.succ_le_succ (hsteps.trans (Nat.sub_le ..)), by omega, by omega⟩

/-- Steps of 1 to the horizon cannot pass over the distances 1 to the horizon: the first step beyond 2^32 ends on one of them,
within one more step than there are distances (R151). -/
theorem exists_seriesValue_liesAhead (b : Base) (tbT tbP due : Word) {interval : Nat} (hpos : 1 ≤ interval)
    (hhorizon : interval ≤ Config.horizon b.domain) :
    ∃ m, 1 ≤ m ∧ m ≤ 2 ^ 32 + 1 ∧ liesAhead b tbT tbP (seriesValue b interval due m) = true := by
  have hwrap : Config.horizon b.domain < 2 ^ 32 := horizon_lt b.domain
  obtain ⟨m, hm, hbound, hpast, hstep⟩ := exists_first_step_past hpos (distance_lt b tbT tbP due).le
  refine ⟨m, hm, hbound, ?_⟩
  rw [liesAhead_iff, distance_seriesValue]
  omega

end Sys2Proof.Machine
end

section
/-! SUPPORT. What a catch-up comes to (R150, R151): the first value ahead, or the end of a counted repeat. -/

namespace Sys2Proof.Machine

variable {b : Base} {tbT tbP due : Word} {interval : Nat}

/-- After `k` values of the series that do not lie ahead comes one that does (R150, R151). -/
def FirstAheadAfter (b : Base) (tbT tbP : Word) (interval : Nat) (due : Word) (k : Nat) : Prop :=
  liesAhead b tbT tbP (seriesValue b interval due (k + 1)) = true
  ∧ ∀ j < k, liesAhead b tbT tbP (seriesValue b interval due (j + 1)) = false

theorem FirstAheadAfter.advance_liesAhead (h : FirstAheadAfter b tbT tbP interval due 0) :
    liesAhead b tbT tbP (advance b due interval) = true := by
  rw [← seriesValue_one]
  exact h.1

theorem FirstAheadAfter.advance_not_liesAhead {k : Nat} (h : FirstAheadAfter b tbT tbP interval due (k + 1)) :
    liesAhead b tbT tbP (advance b due interval) = false := by
  rw [← seriesValue_one]
  exact h.2 0 k.succ_pos

/-- From the next value there is one fewer to skip. -/
theorem FirstAheadAfter.of_advance {k : Nat} (h : FirstAheadAfter b tbT tbP interval due (k + 1)) :
    FirstAheadAfter b tbT tbP interval (advance b due interval) k := by
  refine ⟨?ahead, fun j hj => ?skipped⟩
  case ahead => rw [← seriesValue_succ]; exact h.1
  case skipped => rw [← seriesValue_succ]; exact h.2 (j + 1) (Nat.succ_lt_succ hj)

/-- A value that lies ahead does not come before the first that does. -/
theorem FirstAheadAfter.lt_of_liesAhead {k m : Nat} (h : FirstAheadAfter b tbT tbP interval due k) (hm : 1 ≤ m)
    (hahead : liesAhead b tbT tbP (seriesValue b interval due m) = true) : k < m := by
  by_contra hle
  have hnot := h.2 (m - 1) (by omega)
  rw [Nat.sub_add_cancel hm, hahead] at hnot
  cases hnot

/-- A counted catch-up with a value ahead among its firings is ARMED there, with one firing consumed by each value (R150). -/
theorem catchUpCounted_armed {k n : Nat} (h : FirstAheadAfter b tbT tbP interval due k) (hn : k < n) (skipped : Nat) :
    catchUpCounted b tbT tbP interval n due skipped =
      { due := seriesValue b interval due (k + 1), remaining := some (n - (k + 1)), skipped := skipped + k, armed := true } := by
  induction n generalizing k due skipped with
  | zero => exact absurd hn k.not_lt_zero
  | succ n ih =>
    cases k with
    | zero => rw [catchUpCounted, if_pos h.advance_liesAhead, seriesValue_one]; rfl
    | succ k =>
      rw [catchUpCounted, if_neg (Bool.eq_false_iff.mp h.advance_not_liesAhead), ih h.of_advance (Nat.lt_of_succ_lt_succ hn),
        seriesValue_succ b interval due, Nat.add_sub_add_right n, Nat.add_assoc, Nat.add_comm 1]

/-- A counted catch-up without a value ahead among its firings completes at its last value, each one skipped (R151). -/
theorem catchUpCounted_completed {n : Nat}
    (h : ∀ j < n, liesAhead b tbT tbP (seriesValue b interval due (j + 1)) = false) (skipped : Nat) :
    catchUpCounted b tbT tbP interval n due skipped =
      { due := seriesValue b interval due n, remaining := some 0, skipped := skipped + n, armed := false } := by
  induction n generalizing due skipped with
  | zero => rw [catchUpCounted, seriesValue_zero]; rfl
  | succ n ih =>
    have hfirst : liesAhead b tbT tbP (advance b due interval) = false := seriesValue_one b interval due ▸ h 0 n.succ_pos
    have hrest : ∀ j < n, liesAhead b tbT tbP (seriesValue b interval (advance b due interval) (j + 1)) = false :=
      fun j hj => seriesValue_succ b interval due (j + 1) ▸ h (j + 1) (Nat.succ_lt_succ hj)
    rw [catchUpCounted, if_neg (Bool.eq_false_iff.mp hfirst), ih hrest, seriesValue_succ, Nat.add_assoc, Nat.add_comm 1]

/-- An endless catch-up with a value ahead among those it tries is ARMED there (R150). -/
theorem catchUpEndless_armed {k n : Nat} (h : FirstAheadAfter b tbT tbP interval due k) (hn : k < n) (skipped : Nat) :
    catchUpEndless b tbT tbP interval n due skipped =
      { due := seriesValue b interval due (k + 1), remaining := none, skipped := skipped + k, armed := true } := by
  induction n generalizing k due skipped with
  | zero => exact absurd hn k.not_lt_zero
  | succ n ih =>
    cases k with
    | zero => rw [catchUpEndless, if_pos h.advance_liesAhead, seriesValue_one]; rfl
    | succ k =>
      rw [catchUpEndless, if_neg (Bool.eq_false_iff.mp h.advance_not_liesAhead), ih h.of_advance (Nat.lt_of_succ_lt_succ hn),
        seriesValue_succ b interval due, Nat.add_assoc, Nat.add_comm 1]

theorem catchUp_of_counted {x : Repeat} {n : Nat} (h : x.remaining = some n) :
    catchUp b tbT tbP x due = catchUpCounted b tbT tbP x.interval n due 0 := by
  simp only [catchUp, h]

theorem catchUp_of_endless {x : Repeat} (h : x.remaining = none) :
    catchUp b tbT tbP x due = catchUpEndless b tbT tbP x.interval catchUpBound due 0 := by
  simp only [catchUp, h]

/-- The first value ahead of an endless series in range comes within the bound (R151). -/
theorem FirstAheadAfter.lt_catchUpBound {k : Nat} (h : FirstAheadAfter b tbT tbP interval due k) (hpos : 1 ≤ interval)
    (hhorizon : interval ≤ Config.horizon b.domain) : k < catchUpBound := by
  obtain ⟨m, hm, hbound, hahead⟩ := exists_seriesValue_liesAhead b tbT tbP due hpos hhorizon
  exact (h.lt_of_liesAhead hm hahead).trans (Nat.lt_succ_of_le hbound)

end Sys2Proof.Machine
end

section
/-! PROOF. The release of a suspended record (R148) and its catch-up (R150 to R152), from the equation of each way it proceeds. -/

namespace Sys2Proof.Machine

/-! ### The release firing -/

/-- The firing that the record of slot `i` sends at its release, as its channel counts it (R148, R73). -/
def State.releaseFiring (s : State) (i : SlotIx) (r : ActionRecord) (a : ChanAction) : Firing :=
  { action := s.counting a, priority := r.what.priority, handle := { slot := i, gen := (s.table.slot i).gen } }

/-- The model times an action by the grain as `counting` counts it (R73, R75). -/
theorem State.counting_eq_timed (s : State) (a : ChanAction) : s.counting a = a.timed s.time.grainWhole := by
  cases a with
  | pulse w => simp [State.counting, Timebases.grainWhole]
  | _ => rfl

theorem State.timed_release (s : State) (i : SlotIx) (r : ActionRecord) (a : ChanAction) :
    s.timed { action := a, priority := r.what.priority, handle := s.table.handleOf i } = s.releaseFiring i r a := by
  rw [State.releaseFiring, s.counting_eq_timed]
  rfl

/-- FIRED and MERGED are recorded as LATE (R148). -/
theorem Verdict.releaseOutcome_of_ne {v : Verdict} (h : v ≠ .conflict) : v.releaseOutcome = .late := by
  cases v with
  | conflict => exact absurd rfl h
  | _ => rfl

/-- A release firing that its channel does not refuse (R148). -/
theorem State.releaseOne_of_not_conflict {s : State} {i : SlotIx} {r : ActionRecord} {due : Word} {c : ChannelIx}
    {a : ChanAction} (hr : s.table.recordAt i = some r) (hphase : r.phase = .suspended due)
    (hwork : r.what.work = .onChannel c a) (h : ((s.channels[c]).take (s.releaseFiring i r a)).2 ≠ .conflict) :
    s.releaseOne i = (s.setChannel c ((s.channels[c]).take (s.releaseFiring i r a)).1).releaseProceed i (r.record .late)
      due := by
  simp only [State.releaseOne, hr, hphase, hwork, State.fire, s.timed_release, if_neg h, Verdict.releaseOutcome_of_ne h]

/-- A release firing that its channel refuses raises CONFLICT (R77, R148). -/
theorem State.releaseOne_of_conflict {s : State} {i : SlotIx} {r : ActionRecord} {due : Word} {c : ChannelIx}
    {a : ChanAction} (hr : s.table.recordAt i = some r) (hphase : r.phase = .suspended due)
    (hwork : r.what.work = .onChannel c a) (h : ((s.channels[c]).take (s.releaseFiring i r a)).2 = .conflict) :
    s.releaseOne i = ((s.setChannel c ((s.channels[c]).take (s.releaseFiring i r a)).1).raise .conflict).releaseProceed i
      (r.record .conflict) due := by
  simp only [State.releaseOne, hr, hphase, hwork, State.fire, s.timed_release, h, if_true, Verdict.releaseOutcome]

/-! ### The ways a released record proceeds -/

theorem State.releaseProceed_of_no_repeat (s : State) (i : SlotIx) {r : ActionRecord} (due : Word)
    (h : r.what.rep = none) : s.releaseProceed i r due = s.finish i r .completed := by
  simp only [State.releaseProceed, h]

theorem State.releaseProceed_of_spent (s : State) (i : SlotIx) {r : ActionRecord} (due : Word) {x : Repeat}
    (h : r.what.rep = some x) (hspent : x.remaining = some 0) :
    s.releaseProceed i r due = s.finish i r .completed := by
  simp only [State.releaseProceed, h, if_pos hspent]

/-- The part with `k` values skipped: MISSED raised once for each (R150). -/
def State.skipping (s : State) (k : Nat) : State :=
  { s with attention := (fun a : Attention => a.raise .missed)^[k] s.attention }

/-- The record with what its catch-up leaves of its firings, each of `k` values skipped counted missed (R150). -/
def ActionRecord.caughtUp (r : ActionRecord) (x : Repeat) (left : Option Nat) (k : Nat) : ActionRecord :=
  { r with what := { r.what with rep := some { x with remaining := left } }, missed := min 65535 (r.missed + k) }

theorem State.setAttention_raiseTimes_missed (s : State) (k : Nat) :
    s.setAttention (s.attention.raiseTimes .missed k) = s.skipping k := by
  rw [Attention.raiseTimes_eq_iterate]
  rfl

/-- A catch-up that has come to a value ahead leaves the record ARMED there (R150). -/
theorem State.releaseProceed_of_armed (s : State) (i : SlotIx) {r : ActionRecord} {due : Word} {x : Repeat} {d : Word}
    {left : Option Nat} {k : Nat} (h : r.what.rep = some x) (hleft : x.remaining ≠ some 0)
    (hcaught : catchUp r.what.base s.time.tbT s.time.tbP x due =
      { due := d, remaining := left, skipped := k, armed := true }) :
    s.releaseProceed i r due = (s.skipping k).armAt i (r.caughtUp x left k) d := by
  simp only [State.releaseProceed, h, if_neg hleft, hcaught, if_true, s.setAttention_raiseTimes_missed]
  rfl

/-- A catch-up that has run out completes the record at its last value (R151). -/
theorem State.releaseProceed_of_run_out (s : State) (i : SlotIx) {r : ActionRecord} {due : Word} {x : Repeat} {d : Word}
    {left : Option Nat} {k : Nat} (h : r.what.rep = some x) (hleft : x.remaining ≠ some 0)
    (hcaught : catchUp r.what.base s.time.tbT s.time.tbP x due =
      { due := d, remaining := left, skipped := k, armed := false }) :
    s.releaseProceed i r due =
      (s.skipping k).finish i { r.caughtUp x left k with phase := .suspended d } .completed := by
  simp only [State.releaseProceed, h, if_neg hleft, hcaught, if_neg Bool.false_ne_true, s.setAttention_raiseTimes_missed]
  rfl

/-! ### The values ahead -/

theorem State.ahead_eq_distance (s : State) (b : Base) (due : Word) : s.ahead b due = distance b s.time.tbT s.time.tbP due := by
  rcases b with _ | _ | _ <;> rfl

/-- The `m`-th value of a repeat's series lies ahead of now (R150, R151). -/
def State.Lies (s : State) (b : Base) (interval : Nat) (due : Word) (m : Nat) : Prop :=
  1 ≤ s.ahead b (seriesValue b interval due m) ∧ s.ahead b (seriesValue b interval due m) ≤ Config.horizon b.domain

theorem State.lies_iff (s : State) (b : Base) (interval : Nat) (due : Word) (m : Nat) :
    s.Lies b interval due m ↔ liesAhead b s.time.tbT s.time.tbP (seriesValue b interval due m) = true := by
  rw [State.Lies, s.ahead_eq_distance, liesAhead_iff]

/-- The first value ahead, counted from 1, is the one after the values skipped. -/
theorem State.firstAheadAfter_of_lies {s : State} {b : Base} {interval : Nat} {due : Word} {m : Nat} (hm : 1 ≤ m)
    (hlies : s.Lies b interval due m) (hfirst : ∀ k, 1 ≤ k → k < m → ¬ s.Lies b interval due k) :
    FirstAheadAfter b s.time.tbT s.time.tbP interval due (m - 1) := by
  refine ⟨?ahead, fun j hj => ?skipped⟩
  case ahead => rwa [Nat.sub_add_cancel hm, ← s.lies_iff]
  case skipped =>
    rw [← Bool.not_eq_true, ← s.lies_iff]
    exact hfirst (j + 1) (Nat.succ_pos j) (by omega)

/-- A counted repeat with a value ahead among its firings is ARMED at the first (R150). -/
theorem State.releaseProceed_of_counted (s : State) (i : SlotIx) {r : ActionRecord} {due : Word} {x : Repeat} {n m : Nat}
    (hrep : r.what.rep = some x) (hn : x.remaining = some n) (hm : 1 ≤ m) (hle : m ≤ n)
    (hlies : s.Lies r.what.base x.interval due m)
    (hfirst : ∀ k, 1 ≤ k → k < m → ¬ s.Lies r.what.base x.interval due k) :
    s.releaseProceed i r due =
      (s.skipping (m - 1)).armAt i (r.caughtUp x (some (n - m)) (m - 1)) (seriesValue r.what.base x.interval due m) := by
  have hleft : x.remaining ≠ some 0 := by rw [hn, Ne, Option.some_inj]; omega
  have hcaught := catchUpCounted_armed (State.firstAheadAfter_of_lies hm hlies hfirst) (by omega : m - 1 < n) 0
  rw [Nat.sub_add_cancel hm, Nat.zero_add, ← catchUp_of_counted hn] at hcaught
  exact s.releaseProceed_of_armed i hrep hleft hcaught

/-- A counted repeat without a value ahead among its firings completes at its last value (R151). -/
theorem State.releaseProceed_of_none_ahead (s : State) (i : SlotIx) {r : ActionRecord} {due : Word} {x : Repeat} {n : Nat}
    (hrep : r.what.rep = some x) (hn : x.remaining = some n) (hpos : 1 ≤ n)
    (hnone : ∀ k, 1 ≤ k → k ≤ n → ¬ s.Lies r.what.base x.interval due k) :
    s.releaseProceed i r due = (s.skipping n).finish i
      { r.caughtUp x (some 0) n with phase := .suspended (seriesValue r.what.base x.interval due n) } .completed := by
  have hleft : x.remaining ≠ some 0 := by rw [hn, Ne, Option.some_inj]; omega
  have hbehind : ∀ j < n,
      liesAhead r.what.base s.time.tbT s.time.tbP (seriesValue r.what.base x.interval due (j + 1)) = false := by
    intro j hj
    rw [← Bool.not_eq_true, ← s.lies_iff]
    exact hnone (j + 1) (Nat.succ_pos j) hj
  have hcaught := catchUpCounted_completed hbehind 0
  rw [Nat.zero_add, ← catchUp_of_counted hn] at hcaught
  exact s.releaseProceed_of_run_out i hrep hleft hcaught

/-- An endless repeat in range is ARMED at the first value ahead (R150). -/
theorem State.releaseProceed_of_endless (s : State) (i : SlotIx) {r : ActionRecord} {due : Word} {x : Repeat} {m : Nat}
    (hrep : r.what.rep = some x) (hrange : x.inRange r.what.base.domain) (hendless : x.remaining = none) (hm : 1 ≤ m)
    (hlies : s.Lies r.what.base x.interval due m)
    (hfirst : ∀ k, 1 ≤ k → k < m → ¬ s.Lies r.what.base x.interval due k) :
    s.releaseProceed i r due =
      (s.skipping (m - 1)).armAt i (r.caughtUp x none (m - 1)) (seriesValue r.what.base x.interval due m) := by
  obtain ⟨hpos, hhorizon, -⟩ := hrange
  have hleft : x.remaining ≠ some 0 := by rw [hendless]; nofun
  have hahead := State.firstAheadAfter_of_lies hm hlies hfirst
  have hcaught := catchUpEndless_armed hahead (hahead.lt_catchUpBound hpos hhorizon) 0
  rw [Nat.sub_add_cancel hm, Nat.zero_add, ← catchUp_of_endless hendless] at hcaught
  exact s.releaseProceed_of_armed i hrep hleft hcaught

/-- The series of a repeat in range comes to a value ahead (R151). -/
theorem State.exists_lies (s : State) {b : Base} {x : Repeat} (hrange : x.inRange b.domain) (due : Word) :
    ∃ m, 1 ≤ m ∧ s.Lies b x.interval due m := by
  obtain ⟨hpos, hhorizon, -⟩ := hrange
  obtain ⟨m, hm, -, hahead⟩ := exists_seriesValue_liesAhead b s.time.tbT s.time.tbP due hpos hhorizon
  exact ⟨m, hm, (s.lies_iff b x.interval due m).mpr hahead⟩

/-- Settles O49: the release firing by its verdict, then the ways the record proceeds, each from what its catch-up comes to. -/
theorem releaseFiresLateAndCatchesUp : Obligations.ReleaseFiresLateAndCatchesUp := by
  refine ⟨fun s i r due c a hr hphase hwork => ⟨State.releaseOne_of_not_conflict hr hphase hwork,
      State.releaseOne_of_conflict hr hphase hwork⟩,
    fun s i r due => ⟨s.releaseProceed_of_no_repeat i due, fun x hrep hrange => ⟨s.releaseProceed_of_spent i due hrep,
      fun _ _ => s.releaseProceed_of_counted i hrep, fun _ => s.releaseProceed_of_none_ahead i hrep,
      fun _ => s.releaseProceed_of_endless i hrep hrange, fun _ => s.exists_lies hrange due⟩⟩⟩

end Sys2Proof.Machine
end

section
/-! SUPPORT. The places of the causes (R159), what an acknowledgement and a mask leave of each cause (R164, R166), and the Attention
Unit as its causes and its last-mark handle. -/

namespace Sys2Proof.Machine

/-- Every place of R159's order is a cause's. -/
theorem Cause.ix_surjective : Function.Surjective Cause.ix := by
  intro k
  fin_cases k
  exacts [⟨.donePending, rfl⟩, ⟨.tableLow, rfl⟩, ⟨.conflict, rfl⟩, ⟨.spawnFail, rfl⟩, ⟨.missed, rfl⟩, ⟨.mark, rfl⟩,
    ⟨.stampOverrun, rfl⟩, ⟨.encFault, rfl⟩, ⟨.trip, rfl⟩, ⟨.homed, rfl⟩, ⟨.linkFault, rfl⟩]

/-- The level causes are DONE_PENDING and TABLE_LOW (R159). -/
theorem levelCause_ix (c : Cause) : levelCause c.ix = true ↔ c = .donePending ∨ c = .tableLow := by
  cases c <;> decide

/-- Two Attention Units with the same causes and the same last-mark handle are the same. -/
theorem Attention.eq_of_cause {a b : Attention} (hcause : ∀ c, a.cause c = b.cause c) (hmark : a.lastMark = b.lastMark) :
    a = b := by
  have hcauses : a.causes = b.causes := by
    ext1 k hk
    obtain ⟨c, hc⟩ := Cause.ix_surjective ⟨k, hk⟩
    simpa [Attention.cause, hc] using hcause c
  cases a
  cases b
  cases hcauses
  cases hmark
  rfl

/-- ATTN is HIGH exactly when some cause is pending and not masked (R167). -/
theorem Attention.attn_eq_high_iff_cause (a : Attention) :
    a.attn = .high ↔ ∃ c : Cause, (a.cause c).pending = true ∧ (a.cause c).masked = false :=
  a.attn_eq_high.trans Cause.ix_surjective.exists

@[simp] theorem Attention.ack_lastMark (a : Attention) (set : CauseSet) : (a.ack set).lastMark = a.lastMark := rfl
@[simp] theorem Attention.mask_lastMark (a : Attention) (set : CauseSet) : (a.mask set).lastMark = a.lastMark := rfl

/-- An acknowledgement reaches exactly the causes of its set (R164). -/
theorem Attention.cause_ack (a : Attention) (set : CauseSet) (c : Cause) :
    (a.ack set).cause c =
      if set.getLsbD c.ix.val = true then (a.cause c).acknowledged (levelCause c.ix) else a.cause c := by
  simp [Attention.ack, Attention.cause, inSet]

/-- An acknowledged cause: count 0, and the flag of a level cause as it was (R164). -/
theorem CauseState.acknowledged_levelCause (x : CauseState) (c : Cause) :
    x.acknowledged (levelCause c.ix) =
      { x with count := 0, pending := if c = .donePending ∨ c = .tableLow then x.pending else false } := by
  simp only [CauseState.acknowledged, ← levelCause_ix]
  cases levelCause c.ix <;> rfl

/-- A mask gives every cause its bit of the set (R166). -/
@[simp] theorem Attention.cause_mask (a : Attention) (set : CauseSet) (c : Cause) :
    (a.mask set).cause c = { a.cause c with masked := set.getLsbD c.ix.val } := by
  simp [Attention.mask, Attention.cause, inSet]

/-- A raise counts and becomes pending, masked or not: it leaves the same before a mask as after it (R160, R166). -/
theorem Attention.mask_raise (a : Attention) (set : CauseSet) (c : Cause) :
    (a.raise c).mask set = (a.mask set).raise c := by
  refine Attention.eq_of_cause (fun d => ?_) rfl
  rw [Attention.cause_mask, Attention.cause_raise, Attention.cause_raise, Attention.cause_mask]
  split <;> rfl

end Sys2Proof.Machine
end

section
/-! SUPPORT. The attention image (R163, Table 11-4): its two cause sets bit by bit, its counts and its last-mark handle. -/

namespace Sys2Proof.Machine

/-- The powers of two at the places that `b` holds add up to the number with those bits. -/
theorem foldr_finRange_two_pow {n : Nat} (b : Fin n → Bool) :
    (List.finRange n).foldr (fun k m => m + (if b k then 2 ^ k.val else 0)) 0 = Nat.ofBits b := by
  induction n with
  | zero => rfl
  | succ n ih =>
    have hlast : (if b 0 then 2 ^ (0 : Fin (n + 1)).val else 0) = (b 0).toNat := by
      cases b 0 <;> rfl
    rw [List.finRange_succ, List.foldr_cons, List.foldr_map, Nat.ofBits_succ, ← ih, hlast, Nat.add_left_inj]
    refine List.foldr_hom (init := 0) (2 * ·) fun k m => ?_
    simp only [Function.comp_apply, Fin.val_succ, Nat.pow_succ]
    split <;> omega

/-- A number's two bytes, most significant first, hold its sixteen low bits (R183). -/
theorem u8_append_u8 (n : Nat) : u8 (n / 256) ++ u8 n = BitVec.ofNat 16 n := by
  refine BitVec.eq_of_toNat_eq ?_
  rw [BitVec.toNat_append, ← Nat.shiftLeft_add_eq_or_of_lt (u8 n).isLt, Nat.shiftLeft_eq]
  simp only [u8, BitVec.toNat_ofNat]
  omega

/-- The number whose bits are the causes that satisfy `p`, DONE_PENDING at bit 0 (R183). -/
def causeNumber (a : Attention) (p : CauseState → Bool) : Nat := Nat.ofBits fun k : Fin 11 => p a.causes[k]

theorem causeBits_eq (a : Attention) (p : CauseState → Bool) :
    causeBits a p = [u8 (causeNumber a p / 256), u8 (causeNumber a p)] := by
  rw [causeBits, foldr_finRange_two_pow, be16, causeNumber]

/-- A cause's bit of a cause set shows whether the cause satisfies `p` (R183). -/
theorem causeNumber_bytes_cause (a : Attention) (p : CauseState → Bool) (c : Cause) :
    (u8 (causeNumber a p / 256) ++ u8 (causeNumber a p)).getLsbD c.ix.val = p (a.cause c) := by
  have hlt := c.ix.isLt
  rw [u8_append_u8, BitVec.getLsbD_ofNat, causeNumber, Nat.testBit_ofBits_lt _ _ hlt, decide_eq_true (by omega), Bool.true_and]
  rfl

/-- The bits of a cause set above LINK_FAULT's are 0 (R183). -/
theorem causeNumber_bytes_above (a : Attention) (p : CauseState → Bool) {k : Nat} (hk : 11 ≤ k) :
    (u8 (causeNumber a p / 256) ++ u8 (causeNumber a p)).getLsbD k = false := by
  rw [u8_append_u8, BitVec.getLsbD_ofNat, causeNumber, Nat.testBit_ofBits_ge _ _ hk, Bool.and_false]

/-- The last-mark handle's bytes, FFh FFh while there is none (R163). -/
theorem optHandleBytes_eq (h : Option Handle) :
    optHandleBytes h = match h with
      | none => [0xFF, 0xFF]
      | some h => [BitVec.ofNat 8 h.slot.val, h.gen] := by
  cases h <;> rfl

/-- The counts of the causes, a byte each in R159's order (Table 11-4). -/
def countBytes (a : Attention) : List Byte := a.causes.toList.map fun x => u8 x.count

@[simp] theorem countBytes_length (a : Attention) : (countBytes a).length = 11 := by
  simp [countBytes]

theorem countBytes_getElem_cause (a : Attention) (c : Cause) (h : c.ix.val < (countBytes a).length) :
    (countBytes a)[c.ix.val] = u8 (a.cause c).count := by
  simp [countBytes, Attention.cause]

/-- The attention image byte by byte: the pending set, the mask, the counts and the last-mark handle (Table 11-4). -/
theorem attentionImage_eq (a : Attention) :
    attentionImage a = u8 (causeNumber a (·.pending) / 256) :: u8 (causeNumber a (·.pending))
      :: u8 (causeNumber a (·.masked) / 256) :: u8 (causeNumber a (·.masked)) :: (countBytes a ++ optHandleBytes a.lastMark) := by
  rw [attentionImage, causeBits_eq, causeBits_eq]
  rfl

theorem attentionImage_length (a : Attention) : (attentionImage a).length = 17 := by
  have hmark : (optHandleBytes a.lastMark).length = 2 := by
    cases a.lastMark <;> rfl
  simp [attentionImage_eq, hmark]

/-- The byte of a cause's count stands after the two cause sets, at the cause's place (Table 11-4). -/
theorem attentionImage_count (a : Attention) (c : Cause) :
    (attentionImage a).getD (4 + c.ix.val) 0 = u8 (a.cause c).count := by
  have hlt : c.ix.val < (countBytes a).length := by
    simp
  rw [attentionImage_eq, Nat.add_comm 4, List.getD_cons_succ, List.getD_cons_succ, List.getD_cons_succ, List.getD_cons_succ,
    List.getD_append _ _ _ _ hlt, List.getD_eq_getElem _ _ hlt, countBytes_getElem_cause]

/-- The image ends with the last-mark handle (Table 11-4). -/
theorem attentionImage_drop (a : Attention) : (attentionImage a).drop 15 = optHandleBytes a.lastMark := by
  rw [attentionImage_eq]
  exact List.drop_left' (countBytes_length a)

end Sys2Proof.Machine
end

section
/-! PROOF. READ_ATTENTION, ACK_ATTENTION and SET_MASK (R163, R164, R166): what each leaves in a link that takes its frame, and the
obligation assembled from it and the rules of the causes. -/

namespace Sys2Proof.Machine

/-- READ_ATTENTION leaves only its answer, the attention image (R163). -/
theorem exec_readAttention {s : State} (h : s.accepts) (tag : Byte) :
    exec (.readAttention tag (.fits ())) s = .next (s.answered tag .ok (attentionImage s.attention)) :=
  congrArg Host.Outcome.next (State.submit_pad_answer h tag fun s => attentionImage s.attention)

theorem exec_ackAttention (tag : Byte) (p : Payload CauseSet) (s : State) :
    exec (.ackAttention tag p) s = .next (s.submit tag fun s => withItems p s ackClaim) := rfl

theorem exec_setMask (tag : Byte) (p : Payload CauseSet) (s : State) :
    exec (.setMask tag p) s = .next (s.submit tag fun s => withItems p s maskClaim) := rfl

/-- ACK_ATTENTION with its set leaves the Attention Unit acknowledged (R164). -/
theorem exec_ackAttention_fits {s : State} (h : s.accepts) (tag : Byte) (set : CauseSet) :
    exec (.ackAttention tag (.fits set)) s = .next ((s.setAttention (s.attention.ack set)).answered tag .ok []) :=
  exec_of_answer h (exec_ackAttention tag (.fits set) s) rfl

/-- SET_MASK with its set leaves the Attention Unit masked (R166). -/
theorem exec_setMask_fits {s : State} (h : s.accepts) (tag : Byte) (set : CauseSet) :
    exec (.setMask tag (.fits set)) s = .next ((s.setAttention (s.attention.mask set)).answered tag .ok []) :=
  exec_of_answer h (exec_setMask tag (.fits set) s) rfl

/-- A raise leaves the link ready to take a frame (R173). -/
theorem State.accepts_raise {s : State} (h : s.accepts) (c : Cause) : (s.raise c).accepts := h

/-- SET_MASK after a raise leaves what the raise leaves after SET_MASK (R160, R166). -/
theorem exec_setMask_raise {s : State} (h : s.accepts) (tag : Byte) (set : CauseSet) (c : Cause) :
    exec (.setMask tag (.fits set)) (s.raise c) =
      .next ((s.setAttention ((s.attention.mask set).raise c)).answered tag .ok []) := by
  rw [exec_setMask_fits (State.accepts_raise h c), State.raise_attention, Attention.mask_raise]
  rfl

/-- Settles O51: READ_ATTENTION by the bytes of its image, ACK_ATTENTION and SET_MASK by what they leave of each cause. -/
theorem attentionRequestsActOnCauses : Obligations.AttentionRequestsActOnCauses := by
  refine ⟨fun s tag h => ?read, fun s tag set h => ?ack, fun s tag set h => ?mask⟩
  case read =>
    refine ⟨_, exec_readAttention h tag, attentionImage_length _, fun c => ⟨?_, ?_, attentionImage_count _ c⟩,
      fun k hk => ⟨?_, ?_⟩, (attentionImage_drop _).trans (optHandleBytes_eq _)⟩ <;> rw [attentionImage_eq]
    · exact causeNumber_bytes_cause s.attention (·.pending) c
    · exact causeNumber_bytes_cause s.attention (·.masked) c
    · exact causeNumber_bytes_above s.attention (·.pending) hk
    · exact causeNumber_bytes_above s.attention (·.masked) hk
  case ack =>
    refine ⟨exec_of_refuse h (exec_ackAttention tag .unfit s) (withItems_unfit s _), s.attention.ack set,
      exec_ackAttention_fits h tag set, s.attention.ack_lastMark set, fun c => ?_⟩
    rw [Attention.cause_ack, CauseState.acknowledged_levelCause]
  case mask =>
    refine ⟨exec_of_refuse h (exec_setMask tag .unfit s) (withItems_unfit s _), s.attention.mask set,
      exec_setMask_fits h tag set, s.attention.mask_lastMark set, s.attention.cause_mask set, ?_, ?_⟩
    · simp only [Attention.attn_eq_high_iff_cause, Attention.cause_mask]
    · rintro c first rfl
      exact exec_setMask_raise h tag set c

end Sys2Proof.Machine
end

section
/-! PROOF. IDENT (R178): what it leaves in a link that takes its frame. -/

namespace Sys2Proof.Machine

/-- Settles O14: of the steps of R173 only IDENT's answer remains, since the link takes the frame, its payload fits, and
IDENT looks at nothing of the state. -/
theorem identAnswersThreeBytes : Obligations.IdentAnswersThreeBytes := by
  intro s tag h
  exact congrArg Host.Outcome.next (State.submit_pad_answer h tag fun _ => [0x44, 0xD8, 0x01])

end Sys2Proof.Machine
end

section
/-! SUPPORT. What a step can do, said once: the small changes that every claim is made of, each with the conditions under which the
model makes it. An invariant that these changes keep is kept by every step. -/

namespace Sys2Proof.Machine

/-! ### The small changes -/

/-- A change of the Attention Unit other than a report: no level condition's flag moves, and the counts stay below their stop
(R160, R164, R166). -/
structure Attention.EventChange (a b : Attention) : Prop where
  level : ∀ c, c = .donePending ∨ c = .tableLow → (b.cause c).pending = (a.cause c).pending
  count : (∀ k : Fin 11, a.causes[k].count ≤ 255) → ∀ k : Fin 11, b.causes[k].count ≤ 255

/-- A change of a channel other than quiesce entry and exit: it neither enters nor leaves SAFE, its line goes on agreeing with
its state, and its items stay in range (R64, R65, R81, R84). -/
structure State.ChannelChange (s : State) (c x : Channel) : Prop where
  safe : x.state = .safe ↔ c.state = .safe
  line : c.lineAgrees → x.lineAgrees
  range : RangesKept s → c.InRange s.time.grainWhole → x.InRange s.time.grainWhole

/-- A change of the timebases at one instant: the grain stays as it is or begins anew without a pulse in flight, TB-T moves only
while no TIME record waits, and homing is armed only while no POSITION record waits (R25, R29, R35). -/
structure State.TimeChange (s : State) (x : Timebases) : Prop where
  grain : (x.divisor = s.time.divisor ∧ x.grainPhase = s.time.grainPhase)
    ∨ (1 ≤ x.divisor ∧ x.divisor ≤ 4096 ∧ x.grainPhase = 0 ∧ ∀ c : ChannelIx, (s.channels[c]).pulsing = false)
  tbT : x.tbT = s.time.tbT ∨ s.table.anyWaiting .time = false
  homing : x.homing = true → s.time.homing = true ∨ s.table.anyWaiting .position = false

/-- A record replaced by another of the same origin, domain and state, or by one ARMED anew: what an AMEND, a repetition and a
catch-up write (R55, R93, R150). -/
structure State.Replaces (s : State) (r r' : ActionRecord) : Prop where
  active : r.phase.isDone = false
  active' : r'.phase.isDone = false
  origin : r'.origin = r.origin
  base : r'.what.base = r.what.base
  parked : r'.phase.isParked = r.phase.isParked
  suspended : r'.phase.isSuspended = true → r.phase.isSuspended = true ∧ (r'.what.work = .mark → r.what.work = .mark)
  group : r'.group = r.group ∨ (r.phase.isParked = true ∧ r'.group ≠ none)
  range : r.InRange → r'.InRange
  due : RangesKept s → ∀ due, r.what.base = .time → r'.phase = .armed due →
    r.phase = .armed due ∨ (due - s.time.tbT).toNat ≤ 2 ^ 30

/-- A record that ARM may write into a FREE slot (R89, R90, R91). -/
structure State.ArmsFresh (s : State) (i : SlotIx) (r : ActionRecord) : Prop where
  free : s.table.recordAt i = none
  normal : s.normal
  host : r.origin = .host
  phase : (∃ n, r.phase = .parked n ∧ r.group ≠ none) ∨ ∃ due, r.phase = .armed due
  homing : r.what.base.domain = .position → s.time.homing = false
  range : r.InRange
  due : ∀ due, r.what.base = .time → r.phase = .armed due → (due - s.time.tbT).toNat ≤ 2 ^ 30

/-- A change that moves no level condition: no slot is taken or becomes FREE, and the done list stays. -/
inductive QuietMove (s : State) : State → Prop
  | attention {a : Attention} (h : s.attention.EventChange a) : QuietMove s (s.setAttention a)
  | channel {c : ChannelIx} {x : Channel} (h : s.ChannelChange s.channels[c] x) : QuietMove s (s.setChannel c x)
  | time {x : Timebases} (h : s.TimeChange x) : QuietMove s (s.setTime x)
  | sense {n : SenseIx} {x : SenseInput} (h : (s.senses[n]).InRange → x.InRange) : QuietMove s (s.setSense n x)
  | binding {b : BindingIx} {x : Binding} (live : x.live = (s.bindings[b]).live)
      (range : (s.bindings[b]).InRange → x.InRange) : QuietMove s (s.setBinding b x)
  | trip : QuietMove s s.trip
  | mirror {v : Level} (h : v = .low → s.quiesce.latch = true) : QuietMove s (s.setQuiesce { s.quiesce with mirror := v })
  | replace {i : SlotIx} {r r' : ActionRecord} (hr : s.table.recordAt i = some r) (h : s.Replaces r r') :
      QuietMove s (s.applyAmend i r')
  | start {i : SlotIx} {r : ActionRecord} {n : Nat} (hr : s.table.recordAt i = some r) (hp : r.phase = .parked n)
      (homing : r.what.base.domain = .position → s.time.homing = false) : QuietMove s (s.putRecord i (goRecord s r))
  | suspend {i : SlotIx} {r : ActionRecord} {due : Word} (hr : s.table.recordAt i = some r) (hp : r.phase = .armed due)
      (firing : r.what.work ≠ .mark) (quiesced : s.quiesced = true) : QuietMove s (s.suspend i r due)

/-- The end of a record's work, or a DONE record collected, with what its last firing left of its items (R58, R59, R94, R157). -/
inductive EndingMove (s : State) : State → Prop
  | done {i : SlotIx} {r r' : ActionRecord} {reason : EndReason} (hr : s.table.recordAt i = some r)
      (active : r.phase.isDone = false) (origin : r'.origin = r.origin) (group : r'.group = r.group)
      (range : r.InRange → r'.InRange) : EndingMove s (s.makeDone i r' reason)
  | free {i : SlotIx} {r r' : ActionRecord} (hr : s.table.recordAt i = some r) (origin : r'.origin = r.origin) :
      EndingMove s (s.freeSlot i r')

/-- A FREE slot taken, or the settings of the free pool replaced (R15, R91, R134). -/
inductive TakingMove (s : State) : State → Prop
  | arm {i : SlotIx} {r : ActionRecord} (h : s.ArmsFresh i r) : TakingMove s (s.setTable (s.table.write i r))
  | spawn {b : BindingIx} {stampP : Word} (h : s.spawnFailure s.bindings[b] = none) :
      TakingMove s (s.makeSpawn b s.time.tbT stampP)
  | settings {reserve low : Nat} (hr : reserve ≤ 64) (hl : low ≤ 127) :
      TakingMove s (s.setTable { s.table with reserve := reserve, lowThreshold := low })

/-- The changes from `s` one after another, those that move a level condition all of the kind `L`; the flag is true where the
level conditions have been reported since (R61). -/
inductive Moves (L : State → State → Prop) (s : State) : Bool → State → Prop
  | refl : Moves L s true s
  | quiet {b : Bool} {t u : State} (h : Moves L s b t) (m : QuietMove t u) : Moves L s b u
  | loud {b : Bool} {t u : State} (h : Moves L s b t) (m : L t u) : Moves L s false u
  | report {b : Bool} {t : State} (h : Moves L s b t) : Moves L s true t.reportLevels

/-- A claim taken whole: its changes, none of which both takes and frees slots, with the level conditions reported at its end. -/
def Runs (s t : State) : Prop := Moves EndingMove s true t ∨ Moves TakingMove s true t

theorem Runs.refl (s : State) : Runs s s := .inl .refl

theorem QuietMove.runs {s t : State} (h : QuietMove s t) : Runs s t := .inl (Moves.refl.quiet h)

section
variable {L : State → State → Prop} {s t u : State} {b c : Bool}

/-- Changes after reported ones end reported or not as they do by themselves. -/
theorem Moves.after (h : Moves L s true t) (m : Moves L t c u) : Moves L s c u := by
  induction m with
  | refl => exact h
  | quiet _ m ih => exact ih.quiet m
  | loud _ m ih => exact ih.loud m
  | report _ ih => exact ih.report

/-- Changes one after another, reported or not in between. -/
theorem Moves.trans (h : Moves L s b t) (m : Moves L t c u) : ∃ d, Moves L s d u := by
  induction m with
  | refl => exact ⟨b, h⟩
  | quiet _ m ih => exact ⟨_, ih.choose_spec.quiet m⟩
  | loud _ m ih => exact ⟨_, ih.choose_spec.loud m⟩
  | report _ ih => exact ⟨_, ih.choose_spec.report⟩

/-- What every change of its kinds keeps, changes one after another keep. -/
theorem Moves.keeps {P : State → Prop} (quiet : ∀ {t u}, P t → QuietMove t u → P u) (loud : ∀ {t u}, P t → L t u → P u)
    (report : ∀ {t}, P t → P t.reportLevels) (m : Moves L s b t) (hs : P s) : P t := by
  induction m with
  | refl => exact hs
  | quiet _ m ih => exact quiet ih m
  | loud _ m ih => exact loud ih m
  | report _ ih => exact report ih

end

/-! ### What no change moves -/

/-- What a claim leaves alone: the commands waiting, RSTn, the link, the count of free choices and the sweep (R174). -/
structure KeepsLink (s t : State) : Prop where
  pending : t.pending = s.pending
  rstn : t.rstn = s.rstn
  link : t.link = s.link
  freeIx : t.freeIx = s.freeIx
  sweep : t.table.sweep = s.table.sweep

theorem KeepsLink.refl (s : State) : KeepsLink s s := ⟨rfl, rfl, rfl, rfl, rfl⟩

theorem KeepsLink.trans {s t u : State} (h : KeepsLink s t) (k : KeepsLink t u) : KeepsLink s u :=
  ⟨k.pending.trans h.pending, k.rstn.trans h.rstn, k.link.trans h.link, k.freeIx.trans h.freeIx, k.sweep.trans h.sweep⟩

theorem QuietMove.keepsLink {s t : State} (m : QuietMove s t) : KeepsLink s t := by
  cases m with
  | trip => unfold State.trip; split <;> exact ⟨rfl, rfl, rfl, rfl, rfl⟩
  | _ => exact ⟨rfl, rfl, rfl, rfl, rfl⟩

theorem EndingMove.keepsLink {s t : State} (m : EndingMove s t) : KeepsLink s t := by
  cases m with
  | done => exact ⟨rfl, rfl, rfl, rfl, rfl⟩
  | free => rw [State.freeSlot, State.dropLive_frame]; exact ⟨rfl, rfl, rfl, rfl, rfl⟩

theorem TakingMove.keepsLink {s t : State} (m : TakingMove s t) : KeepsLink s t := by
  cases m with
  | spawn =>
    rw [State.makeSpawn_frame]
    exact ⟨rfl, rfl, rfl, rfl, rfl⟩
  | _ => exact ⟨rfl, rfl, rfl, rfl, rfl⟩

theorem Runs.keepsLink {s t : State} (h : Runs s t) : KeepsLink s t := by
  have report : ∀ {u}, KeepsLink s u → KeepsLink s u.reportLevels := fun h => h.trans ⟨rfl, rfl, rfl, rfl, rfl⟩
  rcases h with m | m
  · exact m.keeps (fun h q => h.trans q.keepsLink) (fun h q => h.trans q.keepsLink) report (.refl s)
  · exact m.keeps (fun h q => h.trans q.keepsLink) (fun h q => h.trans q.keepsLink) report (.refl s)

end Sys2Proof.Machine
end

section
/-! SUPPORT. The operations that claims share, each as the small changes it is made of. -/

namespace Sys2Proof.Machine

/-! ### Raises -/

/-- The event causes are those that are not reported by level (R159). -/
theorem Attention.eventChange_put {a : Attention} {c : Cause} {x : CauseState} (hc : c ≠ .donePending ∧ c ≠ .tableLow)
    (hx : (∀ k : Fin 11, a.causes[k].count ≤ 255) → x.count ≤ 255) : a.EventChange (a.put c x) where
  level d hd := by
    have hne : c ≠ d := fun e => by subst e; exact hd.elim hc.1 hc.2
    rw [Attention.cause_put_ne a x hne]
  count h k := by
    obtain ⟨d, rfl⟩ := Cause.ix_surjective k
    by_cases hd : c = d
    · subst hd
      have := hx h
      rwa [← Attention.cause_put_self a c x] at this
    · have := h d.ix
      change (a.cause d).count ≤ 255 at this
      rwa [← Attention.cause_put_ne a x hd] at this

theorem satAdd_le (largest n k : Nat) : satAdd largest n k ≤ largest := Nat.min_le_left _ _

theorem bump16_le (n : Nat) : bump16 n ≤ 65535 := satAdd_le _ _ _

theorem Attention.eventChange_raise {a : Attention} {c : Cause} (hc : c ≠ .donePending ∧ c ≠ .tableLow) :
    a.EventChange (a.raise c) :=
  Attention.eventChange_put hc fun _ => satAdd_le _ _ _

theorem Attention.eventChange_raiseTimes {a : Attention} {c : Cause} (hc : c ≠ .donePending ∧ c ≠ .tableLow) (n : Nat) :
    a.EventChange (a.raiseTimes c n) := by
  unfold Attention.raiseTimes
  split
  · exact ⟨fun _ _ => rfl, fun h => h⟩
  · exact Attention.eventChange_put hc fun _ => satAdd_le _ _ _

/-- An acknowledgement leaves the level causes' flags and sets counts to 0 (R164). -/
theorem Attention.eventChange_ack (a : Attention) (set : CauseSet) : a.EventChange (a.ack set) where
  level c hc := by
    rw [Attention.cause_ack]
    split
    · rw [CauseState.acknowledged_levelCause, if_pos hc]
    · rfl
  count h k := by
    obtain ⟨d, rfl⟩ := Cause.ix_surjective k
    change ((a.ack set).cause d).count ≤ 255
    rw [Attention.cause_ack]
    split
    · simp [CauseState.acknowledged]
    · exact h d.ix

/-- A mask moves no flag and no count (R166). -/
theorem Attention.eventChange_mask (a : Attention) (set : CauseSet) : a.EventChange (a.mask set) where
  level c _ := by rw [Attention.cause_mask]
  count h k := by
    obtain ⟨d, rfl⟩ := Cause.ix_surjective k
    change ((a.mask set).cause d).count ≤ 255
    rw [Attention.cause_mask]
    exact h d.ix

theorem QuietMove.raise (s : State) {c : Cause} (hc : c ≠ .donePending ∧ c ≠ .tableLow) : QuietMove s (s.raise c) :=
  .attention (Attention.eventChange_raise hc)

end Sys2Proof.Machine
end

section
/-! SUPPORT. The changes of a channel: what a firing, the end of an action in flight and a new configuration keep (R65, R81). -/

namespace Sys2Proof.Machine

theorem Level.eq_of_ne_flip {a b : Level} (h : a ≠ b.flip) : a = b := by
  cases a <;> cases b <;> simp_all [Level.flip]

theorem Channel.toRest_lineAgrees (c : Channel) : c.toRest.lineAgrees := rfl
theorem Channel.toAsserted_lineAgrees (c : Channel) : c.toAsserted.lineAgrees := rfl

/-- An applied firing leaves the line at the level of its state (R65). -/
theorem Channel.apply_lineAgrees (c : Channel) (f : Firing) : (c.apply f).lineAgrees := by
  cases hf : f.action with
  | assert => rw [c.apply_assert hf]; exact c.toAsserted_lineAgrees
  | release => rw [c.apply_release hf]; exact c.toRest_lineAgrees
  | toggle =>
    rw [c.apply_toggle hf]
    split
    · exact c.toRest_lineAgrees
    · exact c.toAsserted_lineAgrees
  | pulse w => rw [c.apply_pulse hf]; rfl
  | burst b => rw [c.apply_burst hf]; rfl

/-- The steady state that the line gives agrees with it (R76, R83). -/
theorem Channel.settleFromLine_lineAgrees (c : Channel) : c.settleFromLine.lineAgrees := by
  unfold Channel.settleFromLine
  split
  · next h => exact h
  · next h => exact Level.eq_of_ne_flip h

theorem Channel.take_of_safe {c : Channel} (hc : c.state = .safe) (f : Firing) : c.take f = (c, .conflict) := by
  simp only [Channel.take, hc]

/-- A firing neither takes a channel into SAFE nor out of it (R81). -/
theorem Channel.take_state_safe (c : Channel) (f : Firing) : (c.take f).1.state = .safe ↔ c.state = .safe := by
  by_cases hc : c.state = .safe
  · rw [Channel.take_of_safe hc]
  · refine iff_of_false ?_ hc
    rcases c.take_cases f hc with ⟨-, h⟩ | ⟨q, p, g, w, -, -, -, h⟩ | ⟨q, -, -, h⟩ | ⟨q, -, -, h⟩ <;> rw [h]
    · exact c.apply_state_ne_safe f
    · simp
    · exact Channel.apply_state_ne_safe _ f
    · exact hc

/-- A channel whose line agrees with its state takes every firing so (R65). -/
theorem Channel.take_lineAgrees {c : Channel} (h : c.lineAgrees) (f : Firing) : (c.take f).1.lineAgrees := by
  by_cases hc : c.state = .safe
  · rwa [Channel.take_of_safe hc]
  · rcases c.take_cases f hc with ⟨-, e⟩ | ⟨q, p, g, w, hp, -, -, e⟩ | ⟨q, -, -, e⟩ | ⟨q, -, -, e⟩ <;> rw [e]
    · exact c.apply_lineAgrees f
    · simp only [Channel.lineAgrees, hp] at h
      exact h
    · exact Channel.apply_lineAgrees _ f
    · exact h

/-- A firing's parameters as a channel counts them: one tick more where the tick of the instant is still to come (R73, R89). -/
def ChanAction.inRange (tickToCome : Bool) : ChanAction → Prop
  | .pulse w => 1 ≤ w ∧ w ≤ if tickToCome then 65536 else 65535
  | .burst b => b.inRange
  | _ => True

/-- A record's parameters in range are in range as counted (R73, R89). -/
theorem ChanAction.timed_inRange {a : ChanAction} {c : ChannelIx} (h : (Work.onChannel c a).inRange) (b : Bool) :
    (a.timed b).inRange b := by
  cases a with
  | pulse w =>
    obtain ⟨h1, h2⟩ := h
    cases b <;> simp [ChanAction.timed, ChanAction.inRange] <;> omega
  | burst x => exact h
  | _ => trivial

theorem Channel.apply_stateInRange {f : Firing} {b : Bool} (c : Channel) (h : f.action.inRange b) :
    (c.apply f).state.inRange b := by
  cases hf : f.action with
  | assert => rw [c.apply_assert hf]; trivial
  | release => rw [c.apply_release hf]; trivial
  | toggle => rw [c.apply_toggle hf]; split <;> trivial
  | pulse w => rw [c.apply_pulse hf]; rw [hf] at h; exact h.2
  | burst x =>
    rw [hf] at h
    obtain ⟨h1, h2, h3, h4, h5, h6⟩ := h
    rw [c.apply_burst hf]
    exact ⟨h2, h5, h6, h1, h2, h3, h4⟩

/-- A steady channel, whatever its counters, takes a firing in range into its range (R64, R84). -/
theorem Channel.apply_inRange {f : Firing} {b : Bool} {c : Channel} (h : f.action.inRange b) (h1 : c.conflicts ≤ 65535)
    (h2 : c.merges ≤ 65535) (h3 : c.preemptions ≤ 65535) : (c.apply f).InRange b := by
  obtain ⟨-, -, -, e1, e2, e3⟩ := c.apply_keeps f
  exact ⟨c.apply_stateInRange h, e1 ▸ h1, e2 ▸ h2, e3 ▸ h3⟩

theorem Channel.take_inRange {f : Firing} {b : Bool} {c : Channel} (h : f.action.inRange b) (hc : c.InRange b) :
    (c.take f).1.InRange b := by
  obtain ⟨hstate, h1, h2, h3⟩ := hc
  by_cases hs : c.state = .safe
  · rw [Channel.take_of_safe hs]; exact ⟨hstate, h1, h2, h3⟩
  · rcases c.take_cases f hs with ⟨-, e⟩ | ⟨q, p, g, w, hp, hw, -, e⟩ | ⟨q, -, -, e⟩ | ⟨q, -, -, e⟩ <;> rw [e]
    · exact Channel.apply_inRange h h1 h2 h3
    · rw [hw] at h
      rw [hp] at hstate
      exact ⟨max_le hstate h.2, h1, bump16_le _, h3⟩
    · exact Channel.apply_inRange h h1 h2 (bump16_le _)
    · exact ⟨hstate, bump16_le _, h2, h3⟩

/-- A firing whose parameters are those of a record in range changes its channel (R70). -/
theorem State.channelChange_take {s : State} {i : SlotIx} {r : ActionRecord} {c : ChannelIx} {a : ChanAction}
    (hr : s.table.recordAt i = some r) (hw : r.what.work = .onChannel c a) {f : Firing} (hf : f.action = a) (x : Channel) :
    s.ChannelChange x (x.take (s.timed f)).1 where
  safe := x.take_state_safe _
  line h := Channel.take_lineAgrees h _
  range hs hx := by
    refine Channel.take_inRange ?_ hx
    rw [State.timed_action, hf]
    exact ChanAction.timed_inRange (hw ▸ (hs.records i r hr).what.work) _

/-- A pulse's end keeps the line's agreement and the ranges (R78). -/
theorem State.channelChange_endPulse (s : State) (c : Channel) : s.ChannelChange c c.endPulse := by
  unfold Channel.endPulse
  split
  · next h =>
    have hne : c.state ≠ .safe := by rintro e; simp [Channel.endReached, e] at h
    exact ⟨by simp [hne], fun _ => c.toRest_lineAgrees, fun _ hc => ⟨trivial, hc.conflicts, hc.merges, hc.preemptions⟩⟩
  · exact ⟨Iff.rfl, id, fun _ => id⟩

/-- A burst's phase change keeps the line's agreement and the ranges (R79). -/
theorem State.channelChange_phaseChange (s : State) (c : Channel) : s.ChannelChange c c.phaseChange := by
  unfold Channel.phaseChange
  split
  · next q h n hi lo hb =>
    refine ⟨by simp [hb], fun _ => rfl, fun _ hc => ⟨?_, hc.conflicts, hc.merges, hc.preemptions⟩⟩
    have hs := hc.state
    simp only [hb, ChanState.inRange] at hs ⊢
    omega
  · next q h n hi lo hb =>
    split
    · refine ⟨by simp [hb], fun _ => rfl, fun _ hc => ⟨?_, hc.conflicts, hc.merges, hc.preemptions⟩⟩
      have hs := hc.state
      simp only [hb, ChanState.inRange] at hs ⊢
      omega
    · exact ⟨by simp [hb], fun _ => c.toRest_lineAgrees,
        fun _ hc => ⟨trivial, hc.conflicts, hc.merges, hc.preemptions⟩⟩
  · exact ⟨Iff.rfl, id, fun _ => id⟩

@[simp] theorem Channel.configure_state (c : Channel) (rest : Level) (safe : SafeLevel) (policy : Policy) :
    (c.configure rest safe policy).state = c.state := by
  unfold Channel.configure Channel.redrive
  split <;> rfl

/-- A new configuration leaves the three counters (R67). -/
theorem Channel.configure_counters (c : Channel) (rest : Level) (safe : SafeLevel) (policy : Policy) :
    (c.configure rest safe policy).conflicts = c.conflicts ∧ (c.configure rest safe policy).merges = c.merges
    ∧ (c.configure rest safe policy).preemptions = c.preemptions := by
  unfold Channel.configure Channel.redrive
  split <;> exact ⟨rfl, rfl, rfl⟩

/-- A channel without an action in flight has its line driven again by its state (R67). -/
theorem Channel.configure_lineAgrees {c : Channel} (h : c.inFlight = false) (rest : Level) (safe : SafeLevel)
    (policy : Policy) : (c.configure rest safe policy).lineAgrees := by
  cases hs : c.state with
  | rest => simp [Channel.configure, Channel.redrive, Channel.lineAgrees, hs]
  | asserted => simp [Channel.configure, Channel.redrive, Channel.lineAgrees, Channel.active, hs]
  | pulse q p g => simp [Channel.inFlight, hs] at h
  | burst q p l k n hi lo => simp [Channel.inFlight, hs] at h
  | safe => cases safe <;> simp [Channel.configure, Channel.redrive, Channel.lineAgrees, Channel.safeLine, Channel.active, hs]

theorem State.channelChange_configure (s : State) {c : Channel} (h : c.inFlight = false) (rest : Level) (safe : SafeLevel)
    (policy : Policy) : s.ChannelChange c (c.configure rest safe policy) where
  safe := by rw [Channel.configure_state]
  line _ := Channel.configure_lineAgrees h rest safe policy
  range _ hc := by
    obtain ⟨h1, h2, h3⟩ := c.configure_counters rest safe policy
    exact ⟨c.configure_state rest safe policy ▸ hc.state, h1 ▸ hc.conflicts, h2 ▸ hc.merges, h3 ▸ hc.preemptions⟩

end Sys2Proof.Machine
end

section
/-! SUPPORT. A record that falls due or is released, and the claims over several records, as the small changes they are made of. -/

namespace Sys2Proof.Machine

/-! ### One slot and nothing else of the table -/

/-- From `s` to `t` no slot but `i` changed, and neither did the timebases, the sense inputs and Quiesce Control (R49). -/
structure SameBut (s t : State) (i : SlotIx) : Prop where
  time : t.time = s.time
  senses : t.senses = s.senses
  quiesce : t.quiesce = s.quiesce
  others : ∀ j, j ≠ i → t.table.slot j = s.table.slot j

theorem SameBut.refl (s : State) (i : SlotIx) : SameBut s s i := ⟨rfl, rfl, rfl, fun _ _ => rfl⟩

theorem SameBut.trans {s t u : State} {i : SlotIx} (h : SameBut s t i) (k : SameBut t u i) : SameBut s u i :=
  ⟨k.time.trans h.time, k.senses.trans h.senses, k.quiesce.trans h.quiesce,
    fun j hj => (k.others j hj).trans (h.others j hj)⟩

theorem SameBut.of_same_table {s t u : State} {i : SlotIx} (k : SameBut t u i) (htable : t.table = s.table)
    (htime : t.time = s.time) (hsenses : t.senses = s.senses) (hquiesce : t.quiesce = s.quiesce) : SameBut s u i :=
  SameBut.trans ⟨htime, hsenses, hquiesce, fun _ _ => by rw [htable]⟩ k

theorem SameBut.recordAt {s t : State} {i : SlotIx} (h : SameBut s t i) {j : SlotIx} (hj : j ≠ i) :
    t.table.recordAt j = s.table.recordAt j := congrArg Slot.content (h.others j hj)

theorem State.finish_sameBut (s : State) (i : SlotIx) (r : ActionRecord) (reason : EndReason) :
    SameBut s (s.finish i r reason) i := by
  unfold State.finish
  split
  · exact ⟨rfl, rfl, rfl, fun j hj => by rw [s.makeDone_slot, if_neg hj.symm]⟩
  · obtain ⟨hframe, -, hothers, -⟩ := s.freeSlot_freed i r
    exact ⟨by rw [hframe], by rw [hframe], by rw [hframe], hothers⟩

theorem State.armAt_sameBut (s : State) (i : SlotIx) (r : ActionRecord) (due : Word) : SameBut s (s.armAt i r due) i :=
  ⟨rfl, rfl, rfl, fun j hj => (s.table.slot_write i j _).trans (if_neg hj.symm)⟩

theorem State.suspend_sameBut (s : State) (i : SlotIx) (r : ActionRecord) (due : Word) : SameBut s (s.suspend i r due) i :=
  ⟨rfl, rfl, rfl, fun j hj => (s.table.slot_write i j _).trans (if_neg hj.symm)⟩

theorem State.fire_sameBut (s : State) (c : ChannelIx) (f : Firing) (i : SlotIx) : SameBut s (s.fire c f).1 i := by
  obtain ⟨-, -, htable, htime, hsenses, -, hquiesce, -⟩ := s.fire_frame c f
  exact ⟨htime, hsenses, hquiesce, fun j _ => by rw [htable]⟩

theorem State.proceed_sameBut (s : State) (i : SlotIx) (r : ActionRecord) (due : Word) : SameBut s (s.proceed i r due) i := by
  unfold State.proceed
  split
  · exact s.finish_sameBut i r _
  · split
    · exact s.finish_sameBut i r _
    · exact s.armAt_sameBut i _ _

/-- A falling due changes its own slot and no clock, sense input or Quiesce Control (R49, R50). -/
theorem State.fallDueAt_sameBut (s : State) (i : SlotIx) : SameBut s (s.fallDueAt i) i := by
  unfold State.fallDueAt
  split
  · next r hr =>
    split
    · next due hp =>
      unfold State.fallDue
      split
      · exact (State.proceed_sameBut _ i _ due).of_same_table rfl rfl rfl rfl
      · split
        · split
          · exact (State.proceed_sameBut _ i _ due).of_same_table rfl rfl rfl rfl
          · exact s.suspend_sameBut i r due
        · exact (s.fire_sameBut _ _ i).trans (State.proceed_sameBut _ i _ due)
    · exact .refl s i
  · exact .refl s i

/-! ### Outcomes and ends -/

/-- An outcome recorded changes a record's counts and last outcome only (R11). -/
structure ActionRecord.SameItems (r q : ActionRecord) : Prop where
  origin : q.origin = r.origin
  what : q.what = r.what
  group : q.group = r.group
  phase : q.phase = r.phase
  counts : (r.fired ≤ 65535 ∧ r.late ≤ 65535 ∧ r.conflict ≤ 65535 ∧ r.missed ≤ 65535) →
    q.fired ≤ 65535 ∧ q.late ≤ 65535 ∧ q.conflict ≤ 65535 ∧ q.missed ≤ 65535

theorem ActionRecord.record_sameItems (r : ActionRecord) (o : LastOutcome) : r.SameItems (r.record o) := by
  cases o <;> refine ⟨rfl, rfl, rfl, rfl, fun h => ?_⟩ <;> simp only [ActionRecord.record, bump16_le, and_true, h]

theorem ActionRecord.SameItems.inRange {r q : ActionRecord} (h : r.SameItems q) (hr : r.InRange) : q.InRange where
  what := h.what ▸ hr.what
  offset n hn := by rw [h.what]; exact hr.offset n (h.phase ▸ hn)
  group g hg := hr.group g (h.group ▸ hg)
  ordinal b n ho := hr.ordinal b n (h.origin ▸ ho)
  counts := h.counts hr.counts

/-- The end of a record's work is one change (R58, R59, R94). -/
theorem State.finish_move {s : State} {i : SlotIx} {r r' : ActionRecord} (hr : s.table.recordAt i = some r)
    (active : r.phase.isDone = false) (origin : r'.origin = r.origin) (group : r'.group = r.group)
    (range : r.InRange → r'.InRange) (reason : EndReason) : EndingMove s (s.finish i r' reason) := by
  unfold State.finish
  split
  · exact .done hr active origin group range
  · exact .free hr origin

/-! ### Falling due -/

/-- A record whose claim is to be taken is ARMED at a due value that its timebase has reached (R42, R43). -/
theorem isDue_iff (t : Timebases) (r : ActionRecord) :
    isDue t r = true ↔ ∃ due, r.phase = .armed due ∧ t.reached r.what.base due := by
  cases hp : r.phase with
  | armed due =>
    cases hb : r.what.base <;> simp [isDue, hp, hb, Timebases.reached, and_comm]
  | _ => simp [isDue, hp]

/-- An interval in range after TB-T is that many grains ahead (R56). -/
theorem advance_time_sub {tbT : Word} {n : Nat} (h : n ≤ 2 ^ 30) : (advance .time tbT n - tbT).toNat = n := by
  have hsub : advance .time tbT n - tbT = BitVec.ofNat 32 n := by simp only [advance]; bv_omega
  rw [hsub, BitVec.toNat_ofNat]
  omega

theorem Repeat.spend_inRange {d : Domain} {x : Repeat} (h : x.inRange d) : x.spend.inRange d := by
  obtain ⟨h1, h2, h3⟩ := h
  refine ⟨h1, h2, fun n hn => ?_⟩
  simp only [Repeat.spend, Option.map_eq_some_iff] at hn
  obtain ⟨m, hm, rfl⟩ := hn
  have := h3 m hm
  omega

/-- A record that falls due repeats or ends (R55 to R59). -/
theorem State.proceed_moves {s : State} {i : SlotIx} {r q : ActionRecord} {due : Word} (hr : s.table.recordAt i = some r)
    (hp : r.phase = .armed due) (hq : r.SameItems q) (hdue : r.what.base = .time → due = s.time.tbT) :
    ∃ b, Moves EndingMove s b (s.proceed i q due) := by
  have hactive : r.phase.isDone = false := by rw [hp]; rfl
  have hend := State.finish_move hr hactive hq.origin hq.group hq.inRange .completed
  unfold State.proceed
  split
  · exact ⟨_, Moves.refl.loud hend⟩
  · next x hx =>
    split
    · exact ⟨_, Moves.refl.loud hend⟩
    · refine ⟨_, Moves.refl.quiet (.replace hr (r' := { q with what := { q.what with rep := some x.spend }, phase := .armed _ }) ?_)⟩
      rw [hq.what] at hx
      have hrep (h : r.InRange) : x.inRange r.what.base.domain := h.what.rep x hx
      refine ⟨hactive, rfl, hq.origin, by rw [hq.what], by rw [hp]; rfl, by simp [Phase.isSuspended], .inl hq.group, fun h => ?_,
        fun hs d hb hd => .inr ?_⟩
      · have hqr := hq.inRange h
        refine ⟨⟨hqr.what.work, fun y hy => ?_⟩, by simp, hqr.group, hqr.ordinal, hqr.counts⟩
        cases hy
        rw [hq.what]
        exact Repeat.spend_inRange (hrep h)
      · cases hd
        have hi := (hrep (hs.records i r hr)).2.1
        rw [hb] at hi
        rw [hq.what, hb, hdue hb, advance_time_sub hi]
        exact hi

end Sys2Proof.Machine
end

section
/-! SUPPORT. The slots that a claim covers (R44, R49, R50), and falling-due claims, releases, retirements and starts of several
records as the small changes they are made of. -/

namespace Sys2Proof.Machine

/-! ### The slots of a claim -/

theorem ActionTable.channelAt_eq_some_iff {t : ActionTable} {i : SlotIx} {c : ChannelIx} :
    t.channelAt i = some c ↔ ∃ r a, t.recordAt i = some r ∧ r.what.work = .onChannel c a := by
  unfold ActionTable.channelAt ActionRecord.channel
  rw [Option.bind_eq_some_iff]
  constructor
  · rintro ⟨r, hr, hc⟩
    cases hw : r.what.work with
    | mark => simp [hw] at hc
    | onChannel x a =>
      rw [hw] at hc
      cases hc
      exact ⟨r, a, hr, hw⟩
  · rintro ⟨r, a, hr, hw⟩
    exact ⟨r, hr, by rw [hw]⟩

/-- The slots of a domain that are due hold the domain's due records (R42, R43). -/
theorem State.mem_dueSlots {s : State} {d : Domain} {i : SlotIx} :
    i ∈ s.dueSlots d ↔ ∃ r due, s.table.recordAt i = some r ∧ r.phase = .armed due ∧ s.time.reached r.what.base due
      ∧ r.what.base.domain = d := by
  simp only [State.dueSlots, ActionTable.mem_slotsWith, Bool.and_eq_true, beq_iff_eq, isDue_iff]
  constructor
  · rintro ⟨r, hr, ⟨due, hp, hd⟩, hb⟩
    exact ⟨r, due, hr, hp, hd, hb⟩
  · rintro ⟨r, due, hr, hp, hd, hb⟩
    exact ⟨r, hr, ⟨due, hp, hd⟩, hb⟩

/-- The tie order holds the slots of its list that hold a record (R49). -/
theorem ActionTable.mem_tieOrder {t : ActionTable} {l : List SlotIx} {i : SlotIx} :
    i ∈ t.tieOrder l ↔ i ∈ l ∧ t.recordAt i ≠ none := by
  have hall : ∀ p : Fin 4, p ∈ [(3 : Fin 4), 2, 1, 0] := by decide
  simp only [ActionTable.tieOrder, List.mem_flatMap, List.mem_filter, beq_iff_eq, ActionTable.priorityAt]
  constructor
  · rintro ⟨p, -, hi, hp⟩
    exact ⟨hi, fun h => by rw [h] at hp; cases hp⟩
  · rintro ⟨hi, h⟩
    obtain ⟨r, hr⟩ := Option.ne_none_iff_exists'.mp h
    exact ⟨r.what.priority, hall _, hi, by rw [hr]; rfl⟩

/-- A channel's claim covers exactly the due records of its domain and channel (R44). -/
theorem State.mem_claimSlots_channel {s : State} {d : Domain} {c : ChannelIx} {i : SlotIx} :
    i ∈ s.claimSlots (.channel d c) ↔ s.dueOn d c i := by
  simp only [State.claimSlots, ActionTable.mem_tieOrder, List.mem_filter, State.mem_dueSlots, beq_iff_eq,
    ActionTable.channelAt_eq_some_iff, State.dueOn]
  constructor
  · rintro ⟨⟨⟨r, due, hr, hp, hd, hb⟩, q, a, hq, hw⟩, -⟩
    obtain rfl := Option.some.inj (hr.symm.trans hq)
    exact ⟨r, due, a, hr, hp, hw, hb, hd⟩
  · rintro ⟨r, due, a, hr, hp, hw, hb, hd⟩
    exact ⟨⟨⟨r, due, hr, hp, hd, hb⟩, r, a, hr, hw⟩, by simp [hr]⟩

/-- Slot `i` holds a MARK record whose claim is to be taken (R50). -/
def State.markDue (s : State) (i : SlotIx) : Prop :=
  ∃ r due, s.table.recordAt i = some r ∧ r.phase = .armed due ∧ r.what.work = .mark ∧ s.time.reached r.what.base due

theorem State.claimSlots_mark_of_due {s : State} {i : SlotIx} (h : s.markDue i) : s.claimSlots (.mark i) = [i] := by
  obtain ⟨r, due, hr, hp, hw, hd⟩ := h
  have hdue : isDue s.time r = true := (isDue_iff _ _).mpr ⟨due, hp, hd⟩
  simp [State.claimSlots, hr, hdue, hw]

theorem State.claimSlots_mark_of_not_due {s : State} {i : SlotIx} (h : ¬ s.markDue i) : s.claimSlots (.mark i) = [] := by
  simp only [State.claimSlots]
  split
  · next r hr =>
    refine if_neg fun hc => h ?_
    obtain ⟨hdue, hw⟩ := Bool.and_eq_true_iff.mp hc
    obtain ⟨due, hp, hd⟩ := (isDue_iff _ _).mp hdue
    exact ⟨r, due, hr, hp, beq_iff_eq.mp hw, hd⟩
  · rfl

theorem State.mem_claimSlots_mark {s : State} {i j : SlotIx} :
    j ∈ s.claimSlots (.mark i) ↔ j = i ∧ s.markDue i := by
  by_cases h : s.markDue i
  · simp [State.claimSlots_mark_of_due h, h]
  · simp [State.claimSlots_mark_of_not_due h, h]

/-- Every slot that a claim covers holds a due record (R44). -/
theorem State.isDue_of_mem_claimSlots {s : State} {x : DueClaim} {i : SlotIx} (h : i ∈ s.claimSlots x) {r : ActionRecord}
    (hr : s.table.recordAt i = some r) : isDue s.time r = true := by
  rw [isDue_iff]
  cases x with
  | channel d c =>
    obtain ⟨q, due, a, hq, hp, -, -, hd⟩ := State.mem_claimSlots_channel.mp h
    obtain rfl := Option.some.inj (hr.symm.trans hq)
    exact ⟨due, hp, hd⟩
  | mark j =>
    obtain ⟨rfl, q, due, hq, hp, -, hd⟩ := State.mem_claimSlots_mark.mp h
    obtain rfl := Option.some.inj (hr.symm.trans hq)
    exact ⟨due, hp, hd⟩

/-- Slots in ascending order come in the tie order of their priorities (R49). -/
theorem State.tieOrder_pairwise {s : State} {l : List SlotIx} (hl : l.Pairwise (· < ·)) :
    (s.table.tieOrder l).Pairwise s.firesBefore := by
  have hsame : ∀ p : Fin 4, (l.filter fun i => s.table.priorityAt i == some p).Pairwise s.firesBefore := fun p => by
    refine (hl.filter _).imp_of_mem ?_
    intro i j hi hj hij
    simp only [List.mem_filter, ActionTable.priorityAt, beq_iff_eq, Option.map_eq_some_iff] at hi hj
    obtain ⟨-, r, hr, hp⟩ := hi
    obtain ⟨-, q, hq, hp'⟩ := hj
    exact ⟨r, q, hr, hq, .inr ⟨hp'.trans hp.symm, hij⟩⟩
  refine List.pairwise_flatMap.mpr ⟨fun p _ => hsame p, ?_⟩
  refine (show [(3 : Fin 4), 2, 1, 0].Pairwise (fun a b => b < a) by decide).imp fun {p p'} hlt i hi j hj => ?_
  simp only [List.mem_filter, ActionTable.priorityAt, beq_iff_eq, Option.map_eq_some_iff] at hi hj
  obtain ⟨-, r, hr, rfl⟩ := hi
  obtain ⟨-, q, hq, rfl⟩ := hj
  exact ⟨r, q, hr, hq, .inl hlt⟩

theorem State.not_firesBefore_self (s : State) (i : SlotIx) : ¬ s.firesBefore i i := by
  rintro ⟨r, q, hr, hq, h⟩
  obtain rfl := Option.some.inj (hr.symm.trans hq)
  rcases h with h | ⟨-, h⟩ <;> exact lt_irrefl _ h

theorem ActionTable.slotsWith_pairwise (t : ActionTable) (p : ActionRecord → Bool) : (t.slotsWith p).Pairwise (· < ·) :=
  (List.pairwise_lt_finRange 128).filter _

/-- A claim covers each slot once (R44). -/
theorem State.claimSlots_nodup (s : State) (x : DueClaim) : (s.claimSlots x).Nodup := by
  cases x with
  | channel d c =>
    have hdue : (s.dueSlots d).Pairwise (· < ·) := s.table.slotsWith_pairwise _
    refine (State.tieOrder_pairwise (hdue.filter _)).imp fun {i j} h e => ?_
    subst e
    exact s.not_firesBefore_self i h
  | mark i =>
    by_cases h : s.markDue i
    · simp [State.claimSlots_mark_of_due h]
    · simp [State.claimSlots_mark_of_not_due h]

/-! ### Falling due -/

/-- A MARK raise with its handle is a change of events (R46, R162). -/
theorem Attention.eventChange_mark (a : Attention) (h : Handle) : a.EventChange { a.raise .mark with lastMark := some h } := by
  obtain ⟨hlevel, hcount⟩ := Attention.eventChange_raise (a := a) (c := .mark) (by decide)
  exact ⟨hlevel, hcount⟩

/-- A firing of a record's own action changes its channel, and CONFLICT where it is refused (R70, R77). -/
theorem State.fire_moves {L : State → State → Prop} {s : State} {i : SlotIx} {r : ActionRecord} {c : ChannelIx}
    {a : ChanAction} (hr : s.table.recordAt i = some r) (hw : r.what.work = .onChannel c a) {f : Firing} (hf : f.action = a) :
    Moves L s true (s.fire c f).1 := by
  have hchannel := Moves.refl (L := L).quiet (.channel (State.channelChange_take hr hw hf s.channels[c]))
  simp only [State.fire]
  split
  · exact hchannel.quiet (.raise _ (by decide))
  · exact hchannel

theorem State.fire_recordAt (s : State) (c : ChannelIx) (f : Firing) (i : SlotIx) :
    (s.fire c f).1.table.recordAt i = s.table.recordAt i := by
  obtain ⟨-, -, htable, -⟩ := s.fire_frame c f
  rw [htable]

/-- A due record that falls due fires, is missed or is suspended, and proceeds (R44 to R59). -/
theorem State.fallDueAt_moves {s : State} {i : SlotIx}
    (hdue : ∀ r, s.table.recordAt i = some r → isDue s.time r = true) : ∃ b, Moves EndingMove s b (s.fallDueAt i) := by
  unfold State.fallDueAt
  split
  · next r hr =>
    split
    · next due hp =>
      have htime : r.what.base = .time → due = s.time.tbT := fun hb => by
        obtain ⟨d, hd, hreached⟩ := (isDue_iff _ _).mp (hdue r hr)
        obtain rfl := Phase.armed.inj (hp.symm.trans hd)
        rwa [hb] at hreached
      have same := r.record_sameItems
      unfold State.fallDue
      split
      · have hmark : QuietMove s (s.mark (s.table.handleOf i)) := .attention (s.attention.eventChange_mark _)
        obtain ⟨b, hproceed⟩ := State.proceed_moves (s := s.mark (s.table.handleOf i)) hr hp (same _) htime
        exact (Moves.refl.quiet hmark).trans hproceed
      · next c a hw =>
        split
        · next hq =>
          split
          · obtain ⟨b, hproceed⟩ := State.proceed_moves (s := s.raise .missed) hr hp (same _) htime
            exact (Moves.refl.quiet (.raise s (by decide))).trans hproceed
          · exact ⟨_, Moves.refl.quiet (.suspend hr hp (by simp [hw]) hq)⟩
        · have hfire := State.fire_moves (L := EndingMove) hr hw
            (f := { action := a, priority := r.what.priority, handle := s.table.handleOf i }) rfl
          obtain ⟨-, -, -, htm, -⟩ := s.fire_frame c { action := a, priority := r.what.priority, handle := s.table.handleOf i }
          obtain ⟨b, hproceed⟩ := State.proceed_moves ((s.fire_recordAt c _ i).trans hr) hp (same _)
            (fun hb => (htime hb).trans (by rw [htm]))
          exact hfire.trans hproceed
    · exact ⟨_, .refl⟩
  · exact ⟨_, .refl⟩

/-- Falling due one after another, no slot twice, leaves the other slots alone, and the clocks (R44, R49). -/
theorem State.foldl_fallDueAt_sameBut (l : List SlotIx) (s : State) :
    (l.foldl State.fallDueAt s).time = s.time ∧ (l.foldl State.fallDueAt s).senses = s.senses
    ∧ (l.foldl State.fallDueAt s).quiesce = s.quiesce
    ∧ ∀ j, j ∉ l → (l.foldl State.fallDueAt s).table.slot j = s.table.slot j := by
  induction l generalizing s with
  | nil => exact ⟨rfl, rfl, rfl, fun _ _ => rfl⟩
  | cons i rest ih =>
    obtain ⟨h1, h2, h3, h4⟩ := ih (s.fallDueAt i)
    obtain ⟨k1, k2, k3, k4⟩ := s.fallDueAt_sameBut i
    refine ⟨h1.trans k1, h2.trans k2, h3.trans k3, fun j hj => ?_⟩
    obtain ⟨hne, hrest⟩ := not_or.mp (mt List.mem_cons.mpr hj)
    exact (h4 j hrest).trans (k4 j hne)

theorem State.foldl_fallDueAt_moves {l : List SlotIx} (hl : l.Nodup) {s : State}
    (hdue : ∀ i ∈ l, ∀ r, s.table.recordAt i = some r → isDue s.time r = true) :
    ∃ b, Moves EndingMove s b (l.foldl State.fallDueAt s) := by
  induction l generalizing s with
  | nil => exact ⟨_, .refl⟩
  | cons i rest ih =>
    obtain ⟨hi, hrest⟩ := List.nodup_cons.mp hl
    obtain ⟨b, hfirst⟩ := State.fallDueAt_moves (hdue i List.mem_cons_self)
    have hsame := s.fallDueAt_sameBut i
    obtain ⟨c, hothers⟩ := ih hrest (s := s.fallDueAt i) fun j hj r hr => by
      have hne : j ≠ i := fun e => hi (e ▸ hj)
      rw [hsame.time]
      exact hdue j (List.mem_cons_of_mem i hj) r ((hsame.recordAt hne).symm.trans hr)
    exact hfirst.trans hothers

/-- A falling-due claim is a run (R44, R61). -/
theorem State.takeClaim_runs (s : State) (x : DueClaim) : Runs s (s.takeClaim x) := by
  obtain ⟨b, h⟩ := State.foldl_fallDueAt_moves (s.claimSlots_nodup x) fun i hi r hr => State.isDue_of_mem_claimSlots hi hr
  exact .inl h.report

/-- Every happening taken is a run (R44, R78, R79). -/
theorem State.takeHappening_runs (s : State) (x : Happening) : Runs s (s.takeHappening x) := by
  cases x with
  | claim x => exact s.takeClaim_runs x
  | pulseEnd c => exact (QuietMove.channel (s.channelChange_endPulse _)).runs
  | phaseChange c => exact (QuietMove.channel (s.channelChange_phaseChange _)).runs

end Sys2Proof.Machine
end

section
/-! SUPPORT. Releases, retirements, starts, spawns and edges as the small changes they are made of. -/

namespace Sys2Proof.Machine

/-! ### Release of the suspended list -/

/-- A counted catch-up that arms its record does so at a value that lies ahead, with no more firings left than before
(R150). -/
theorem catchUpCounted_spec (b : Base) (tbT tbP : Word) (interval n : Nat) (due : Word) (k : Nat) :
    ((catchUpCounted b tbT tbP interval n due k).armed = true →
      liesAhead b tbT tbP (catchUpCounted b tbT tbP interval n due k).due = true)
    ∧ ∀ m, (catchUpCounted b tbT tbP interval n due k).remaining = some m → m ≤ n := by
  induction n generalizing due k with
  | zero => simp [catchUpCounted]
  | succ n ih =>
    simp only [catchUpCounted]
    split
    · next h => exact ⟨fun _ => h, fun m hm => by cases hm; exact Nat.le_succ n⟩
    · obtain ⟨harmed, hleft⟩ := ih (advance b due interval) (k + 1)
      exact ⟨harmed, fun m hm => Nat.le_succ_of_le (hleft m hm)⟩

/-- An endless catch-up that arms its record does so at a value that lies ahead, and stays endless (R150). -/
theorem catchUpEndless_spec (b : Base) (tbT tbP : Word) (interval n : Nat) (due : Word) (k : Nat) :
    ((catchUpEndless b tbT tbP interval n due k).armed = true →
      liesAhead b tbT tbP (catchUpEndless b tbT tbP interval n due k).due = true)
    ∧ (catchUpEndless b tbT tbP interval n due k).remaining = none := by
  induction n generalizing due k with
  | zero => simp [catchUpEndless]
  | succ n ih =>
    simp only [catchUpEndless]
    split
    · next h => exact ⟨fun _ => h, rfl⟩
    · exact ih (advance b due interval) (k + 1)

/-- What a catch-up arms its record at lies ahead (R150, R151). -/
theorem catchUp_armed {b : Base} {tbT tbP : Word} {x : Repeat} {due : Word} (h : (catchUp b tbT tbP x due).armed = true) :
    liesAhead b tbT tbP (catchUp b tbT tbP x due).due = true := by
  unfold catchUp at h ⊢
  split at h
  · exact (catchUpCounted_spec ..).1 h
  · exact (catchUpEndless_spec ..).1 h

/-- A catch-up leaves a repeat in range (R10, R150). -/
theorem catchUp_inRange {b : Base} {tbT tbP : Word} {x : Repeat} {due : Word} (h : x.inRange b.domain) :
    ({ x with remaining := (catchUp b tbT tbP x due).remaining } : Repeat).inRange b.domain := by
  obtain ⟨h1, h2, h3⟩ := h
  refine ⟨h1, h2, fun m hm => ?_⟩
  change (catchUp b tbT tbP x due).remaining = some m at hm
  unfold catchUp at hm
  split at hm
  · next n hn => exact ((catchUpCounted_spec ..).2 m hm).trans (h3 n hn)
  · next hn => rw [(catchUpEndless_spec ..).2] at hm; cases hm

/-- A record in range is in range with what a catch-up leaves of its items (R11, R150). -/
theorem caughtRecord_inRange {q : ActionRecord} {x : Repeat} {tbT tbP due : Word} (h : q.InRange) (hx : q.what.rep = some x)
    {p : Phase} (hp : p.isParked = false) :
    ({ caughtRecord q x (catchUp q.what.base tbT tbP x due) with phase := p } : ActionRecord).InRange := by
  obtain ⟨hwhat, -, hgroup, hordinal, h1, h2, h3, h4⟩ := h
  refine ⟨⟨hwhat.work, fun y hy => ?_⟩, fun n hn => ?_, hgroup, hordinal, h1, h2, h3, satAdd_le _ _ _⟩
  · cases hy
    exact catchUp_inRange (hwhat.rep x hx)
  · change p = .parked n at hn
    rw [hn] at hp
    cases hp

/-- A suspended record proceeds after its release firing: it ends, or is ARMED at a value ahead (R150, R152). -/
theorem State.releaseProceed_moves {s : State} {i : SlotIx} {r q : ActionRecord} {due : Word}
    (hr : s.table.recordAt i = some r) (hp : r.phase = .suspended due) (hq : r.SameItems q) :
    ∃ b, Moves EndingMove s b (s.releaseProceed i q due) := by
  have hactive : r.phase.isDone = false := by rw [hp]; rfl
  have hend := State.finish_move hr hactive hq.origin hq.group hq.inRange .completed
  unfold State.releaseProceed
  split
  · exact ⟨_, Moves.refl.loud hend⟩
  · next x hx =>
    split
    · exact ⟨_, Moves.refl.loud hend⟩
    · have hskip : QuietMove s (s.setAttention (s.attention.raiseTimes .missed
          (catchUp q.what.base s.time.tbT s.time.tbP x due).skipped)) :=
        .attention (Attention.eventChange_raiseTimes (by decide) _)
      dsimp only
      split
      · next harmed =>
        refine ⟨_, (Moves.refl.quiet hskip).quiet (.replace hr
          (r' := { caughtRecord q x (catchUp q.what.base s.time.tbT s.time.tbP x due) with phase := .armed _ }) ?_)⟩
        refine ⟨hactive, rfl, hq.origin, by change q.what.base = r.what.base; rw [hq.what], by rw [hp]; rfl, by simp [Phase.isSuspended], .inl hq.group,
          fun h => caughtRecord_inRange (hq.inRange h) hx rfl, fun hs d hb hd => .inr ?_⟩
        cases hd
        have hlies := catchUp_armed harmed
        rw [hq.what, hb, liesAhead_iff] at hlies
        rw [hq.what, hb]
        exact hlies.2
      · refine ⟨_, (Moves.refl.quiet hskip).loud (t := s.setAttention _) ?_⟩
        refine State.finish_move (r := r) ?_ hactive ?_ ?_ (fun h => caughtRecord_inRange (hq.inRange h) hx rfl) .completed
        exacts [hr, hq.origin, hq.group]

theorem State.releaseOne_moves (s : State) (i : SlotIx) : ∃ b, Moves EndingMove s b (s.releaseOne i) := by
  unfold State.releaseOne
  split
  · next r hr =>
    split
    · next due c a hp hw =>
      have hfire := State.fire_moves (L := EndingMove) hr hw
        (f := { action := a, priority := r.what.priority, handle := s.table.handleOf i }) rfl
      obtain ⟨b, hproceed⟩ := State.releaseProceed_moves ((s.fire_recordAt c _ i).trans hr) hp (r.record_sameItems _)
      exact hfire.trans hproceed
    · exact ⟨_, .refl⟩
  · exact ⟨_, .refl⟩

/-- The part as it leaves the quiesced condition, before any record is released (R83, R143). -/
def State.leave (s : State) : State :=
  (s.setQuiesce { s.quiesce with latch := false }).setChannels (s.channels.map Channel.leaveSafe)

theorem State.foldl_releaseOne_moves (l : List SlotIx) (s : State) :
    ∃ b, Moves EndingMove s b (l.foldl State.releaseOne s) := by
  induction l generalizing s with
  | nil => exact ⟨_, .refl⟩
  | cons i rest ih =>
    obtain ⟨b, hfirst⟩ := s.releaseOne_moves i
    obtain ⟨c, hothers⟩ := ih (s.releaseOne i)
    exact hfirst.trans hothers

/-- After the channels have left SAFE, the release of the list is a run (R147). -/
theorem State.exitQuiesce_runs (s : State) : Runs s.leave s.exitQuiesce := by
  obtain ⟨b, h⟩ := State.foldl_releaseOne_moves s.table.suspended s.leave
  exact .inl h.report

/-! ### Retirements -/

theorem State.retireAll_moves (reason : EndReason) (l : List SlotIx) (s : State) :
    ∃ b, Moves EndingMove s b (s.retireAll reason l) := by
  induction l generalizing s with
  | nil => exact ⟨_, .refl⟩
  | cons i rest ih =>
    unfold State.retireAll
    split
    · next r hr =>
      split
      · next hactive =>
        have hend := State.finish_move hr (by simpa [Phase.isActive] using hactive) rfl rfl id reason
        obtain ⟨b, hothers⟩ := ih (s.finish i r reason)
        exact (Moves.refl.loud hend).trans hothers
      · exact ih s
    · exact ih s

/-! ### Starts of a group -/

/-- PARKED records started one after another, where none is POSITION while homing is ARMED (R37, R96). -/
theorem State.goAll_moves {L : State → State → Prop} {l : List SlotIx} (hl : l.Nodup) {s : State}
    (h : ∀ i ∈ l, ∃ r n, s.table.recordAt i = some r ∧ r.phase = .parked n
      ∧ (r.what.base.domain = .position → s.time.homing = false)) : Moves L s true (s.goAll l) := by
  induction l generalizing s with
  | nil => exact .refl
  | cons i rest ih =>
    obtain ⟨hi, hrest⟩ := List.nodup_cons.mp hl
    obtain ⟨r, n, hr, hp, hhoming⟩ := h i List.mem_cons_self
    simp only [State.goAll, hr]
    refine Moves.after (Moves.refl.quiet (.start hr hp hhoming)) (ih hrest fun j hj => ?_)
    obtain ⟨q, m, hq, hrest⟩ := h j (List.mem_cons_of_mem i hj)
    have hne : i ≠ j := fun e => hi (e ▸ hj)
    exact ⟨q, m, by rw [State.putRecord, State.setTable_table, ActionTable.recordAt_write, if_neg hne, hq], hrest⟩

/-! ### Spawns -/

theorem Binding.InRange.withFailure {x : Binding} (h : x.InRange) (why : FailCause) :
    ({ x with fails := bump16 x.fails, lastFail := some why } : Binding).InRange :=
  ⟨h.steps, h.step, h.enabled, h.ordinal, h.live, bump16_le _⟩

theorem State.spawnOne_time (stampT stampP : Word) (s : State) (b : BindingIx) :
    (s.spawnOne stampT stampP b).time = s.time := by
  unfold State.spawnOne
  split <;> rfl

theorem State.spawnOne_moves (s : State) (stampP : Word) (b : BindingIx) :
    ∃ c, Moves TakingMove s c (s.spawnOne s.time.tbT stampP b) := by
  unfold State.spawnOne
  split
  · next why _ =>
    have hbinding : QuietMove s (s.setBinding b
        { s.bindings[b] with fails := bump16 (s.bindings[b]).fails, lastFail := some why }) :=
      .binding rfl fun h => h.withFailure why
    exact ⟨_, (Moves.refl.quiet hbinding).quiet (.raise _ (by decide))⟩
  · next h => exact ⟨_, Moves.refl.loud (.spawn h)⟩

theorem State.foldl_spawnOne_moves {stampT : Word} (stampP : Word) (l : List BindingIx) {s : State} (h : s.time.tbT = stampT) :
    ∃ c, Moves TakingMove s c (l.foldl (State.spawnOne stampT stampP) s) := by
  induction l generalizing s with
  | nil => exact ⟨_, .refl⟩
  | cons b rest ih =>
    subst h
    obtain ⟨c, hfirst⟩ := s.spawnOne_moves stampP b
    obtain ⟨d, hothers⟩ := ih (s := s.spawnOne s.time.tbT stampP b) (by rw [State.spawnOne_time])
    exact hfirst.trans hothers

/-- The spawn claim of a hand-off at this instant (R116, R131). -/
theorem State.spawn_moves {s : State} {h : HandOff} (ht : s.time.tbT = h.stampT) : Moves TakingMove s true (s.spawn h) := by
  obtain ⟨c, hm⟩ := State.foldl_spawnOne_moves h.stampP (s.selected h.input) ht
  exact hm.report

/-! ### Edges at a sense input -/

theorem SenseInput.InRange.accept {x : SenseInput} (h : x.InRange) : x.accept.InRange := by
  obtain ⟨hprescale, hcounter, hgap, -⟩ := h
  refine ⟨hprescale, ?_, hgap, fun e he => ?_⟩
  · change (if x.qualifies = true then 0 else x.prescaleCount + 1) < x.prescale
    split
    · omega
    · next hq => simpa [SenseInput.qualifies] using hq
  · cases he
    omega

theorem SenseInput.InRange.stamp {x : SenseInput} (h : x.InRange) (tbT tbP : Word) (p : Polarity) :
    (x.stamp tbT tbP p).InRange := ⟨h.prescale, h.counter, h.gap, h.tracker⟩

theorem SenseInput.InRange.sampled {x : SenseInput} (h : x.InRange) (v : Level) : (x.sampled v).InRange :=
  ⟨h.prescale, h.counter, h.gap, h.tracker⟩

/-- An edge is a run: the sense input, STAMP_OVERRUN where a stamp is lost, and the spawns (R110 to R116, R131). -/
theorem State.edge_runs (s : State) (n : SenseIx) (v : Level) : Runs s (s.edge n v) := by
  rw [State.edge_eq]
  split
  · split
    · rw [State.qualifiedEdge]
      have hstamp : QuietMove s (s.setSense n ((s.senses[n].sampled v).accept.stamp s.time.tbT s.time.tbP (edgePolarity v))) :=
        .sense fun h => ((h.sampled v).accept).stamp _ _ _
      split
      · exact .inr (((Moves.refl.quiet hstamp).quiet (.raise _ (by decide))).after (State.spawn_moves rfl))
      · exact .inr ((Moves.refl.quiet hstamp).after (State.spawn_moves rfl))
    · exact (QuietMove.sense fun h => (h.sampled v).accept).runs
  · exact (QuietMove.sense fun h => h.sampled v).runs

end Sys2Proof.Machine
end

section
/-! SUPPORT. What the checks of an ARM and an AMEND accept (R89, R92), and that what they accept lies in the ranges of section
1.3. -/

namespace Sys2Proof.Machine

/-! ### Templates in range -/

theorem burst_inRange {b : BurstItems} (h : b.InRange) :
    ({ high := b.high, low := b.low, cycles := b.cycles } : Burst).inRange := h

/-- A repeat field made of an item in range is in range (R10, R89). -/
theorem RepeatItemsGive.inRange {d : Domain} {x : RepeatItems} {y : Repeat} (h : RepeatItemsGive x y) (hx : x.InRange d) :
    y.inRange d := by
  obtain ⟨hinterval, hcounted, hendless⟩ := h
  obtain ⟨h1, h2, hrun⟩ := hx
  refine ⟨hinterval ▸ h1, hinterval ▸ h2, fun n hn => ?_⟩
  rcases hrun with he | ⟨m, hm, hc⟩
  · rw [hendless he] at hn; cases hn
  · rw [hcounted m hc] at hn; cases hn; exact hm

/-- A template made of accepted items lies in the ranges of section 1.3 (R89, R123). -/
theorem inRange_of_checkRecord {i : RecordItems} {w : Template} (h : checkRecord i = some w) : w.InRange := by
  obtain ⟨hbase, hwork, -, hrep, -⟩ := checkRecord_eq_some_iff.mp h
  refine ⟨?work, fun x hx => ?rep⟩
  case work =>
    rcases checkWork_eq_some_iff.mp hwork with ⟨-, -, -, -, hx⟩ | ⟨c, -, ⟨-, -, ⟨-, hx⟩ | ⟨-, hx⟩ | ⟨-, hx⟩⟩
      | ⟨n, -, -, -, hn, hx⟩ | ⟨b, -, -, -, hb, hx⟩⟩ <;> rw [hx]
    · trivial
    · trivial
    · trivial
    · trivial
    · exact hn
    · exact burst_inRange hb
  case rep =>
    rw [checkBase_domain hbase]
    cases hi : i.rep with
    | none =>
      rw [hi, checkRepeat_none_iff, hx] at hrep
      cases hrep
    | some y =>
      rw [hi, hx, checkRepeat_some_iff] at hrep
      obtain ⟨z, hz, hrange, hgives⟩ := hrep
      cases hz
      exact hgives.inRange hrange

/-! ### ARM -/

/-- The checks that R89 makes of an ARM beside those of its template: an OFFSET within the horizon, a group 1 to 15, and for a
start PARKED an OFFSET and a group. -/
structure ArmAllows (a : ArmItems) (d : Domain) (v : Word) : Prop where
  offset : a.form = .offset → 1 ≤ v.toNat ∧ v.toNat ≤ Config.horizon d
  group : ∀ g, a.group = some g → 1 ≤ g ∧ g ≤ 15
  parked : a.start = .parked → a.form = .offset ∧ a.group ≠ none

theorem groupInRange_iff {g : Option Nat} : groupInRange g = true ↔ ∀ n, g = some n → 1 ≤ n ∧ n ≤ 15 := by
  cases g <;> simp [groupInRange]

/-- An ARM is accepted exactly where its template and its own checks are, and is then what its items say (R89). -/
theorem checkArm_eq_some_iff {a : ArmItems} {x : ArmSpec} :
    checkArm a = some x ↔ checkRecord a.items = some x.what ∧ a.value = some x.value ∧ x.start = a.start ∧ x.form = a.form
      ∧ x.group = a.group ∧ ArmAllows a x.what.base.domain x.value := by
  have hallows (d : Domain) (v : Word) : ((a.form == .absolute || distanceInRange d v.toNat) && groupInRange a.group
      && (a.start == .armed || (a.form == .offset && a.group.isSome))) = true ↔ ArmAllows a d v := by
    simp only [Bool.and_eq_true, Bool.or_eq_true, beq_iff_eq, distanceInRange_iff, groupInRange_iff]
    constructor
    · rintro ⟨⟨hform, hgroup⟩, hstart⟩
      refine ⟨fun h => ?_, hgroup, fun h => ?_⟩
      · exact hform.resolve_left (by simp [h])
      · obtain ⟨h1, h2⟩ := hstart.resolve_left (by simp [h])
        exact ⟨h1, by rintro e; simp [e] at h2⟩
    · rintro ⟨hoffset, hgroup, hparked⟩
      refine ⟨⟨?_, hgroup⟩, ?_⟩
      · cases hf : a.form with
        | absolute => exact .inl rfl
        | offset => exact .inr (hoffset hf)
      · cases hs : a.start with
        | armed => exact .inl rfl
        | parked =>
          obtain ⟨h1, h2⟩ := hparked hs
          exact .inr ⟨h1, Option.isSome_iff_ne_none.mpr h2⟩
  obtain ⟨start, form, value, what, group⟩ := x
  unfold checkArm
  cases hw : checkRecord a.items with
  | none => simp
  | some w =>
    cases hv : a.value with
    | none => simp
    | some v =>
      simp only [Option.some.injEq]
      split
      · next h =>
        simp only [Option.some.injEq, ArmSpec.mk.injEq]
        constructor
        · rintro ⟨rfl, rfl, rfl, rfl, rfl⟩
          exact ⟨rfl, rfl, rfl, rfl, rfl, (hallows _ _).mp h⟩
        · rintro ⟨rfl, rfl, rfl, rfl, rfl, -⟩
          exact ⟨rfl, rfl, rfl, rfl, rfl⟩
      · next h =>
        simp only [reduceCtorEq, false_iff]
        rintro ⟨rfl, rfl, -, -, -, hok⟩
        exact h ((hallows _ _).mpr hok)

/-- An ARM that meets R89 is accepted, and only such. -/
theorem exists_checkArm_iff {a : ArmItems} : (∃ x, checkArm a = some x) ↔ a.Meets := by
  constructor
  · rintro ⟨x, hx⟩
    obtain ⟨hrecord, hvalue, -, -, -, hallows⟩ := checkArm_eq_some_iff.mp hx
    have hdomain := checkBase_domain (checkRecord_eq_some_iff.mp hrecord).1
    refine ⟨meets_of_checkRecord hrecord, by simp [hvalue], fun hf v hv => ?_, hallows.group, hallows.parked⟩
    obtain rfl := Option.some.inj (hvalue.symm.trans hv)
    exact hdomain ▸ hallows.offset hf
  · intro h
    obtain ⟨w, hw⟩ := exists_checkRecord_of_meets h.items
    obtain ⟨v, hv⟩ := Option.ne_none_iff_exists'.mp h.value
    have hdomain := checkBase_domain (checkRecord_eq_some_iff.mp hw).1
    exact ⟨⟨a.start, a.form, v, w, a.group⟩, checkArm_eq_some_iff.mpr
      ⟨hw, hv, rfl, rfl, rfl, fun hf => hdomain ▸ h.offset hf v hv, h.group, h.parked⟩⟩

theorem checkArm_eq_none_iff {a : ArmItems} : checkArm a = none ↔ ¬ a.Meets := by
  rw [← exists_checkArm_iff, ← Option.not_isSome_iff_eq_none, Option.isSome_iff_exists]

/-- An offset in range ahead of TB-T (R91, R96, R134). -/
theorem aheadOf_time_sub {tbT tbP : Word} {n : Nat} (h : n ≤ 2 ^ 30) : (aheadOf .time tbT tbP n - tbT).toNat = n :=
  advance_time_sub h

/-- A due value formed by an accepted ARM or AMEND lies no more than the horizon ahead of TB-T (R90, R91, R93). -/
theorem formDue_time_ahead {s : State} {form : DueForm} {v : Word} (hoffset : form = .offset → v.toNat ≤ 2 ^ 30)
    (hbeyond : outOfHorizon s .time form v = false) : (formDue s .time form v - s.time.tbT).toNat ≤ 2 ^ 30 := by
  cases form with
  | offset =>
    have h := hoffset rfl
    rw [formDue, aheadOf_time_sub h]
    exact h
  | absolute =>
    have hlies : liesAhead .time s.time.tbT s.time.tbP v = true := by simpa [outOfHorizon] using hbeyond
    exact ((liesAhead_iff ..).mp hlies).2

/-! ### AMEND -/

theorem amendWidthOk_iff {w : Work} {x : Option Nat} :
    amendWidthOk w x = true ↔ ∀ n, x = some n → (1 ≤ n ∧ n ≤ 65535) ∧ ∃ c k, w = .onChannel c (.pulse k) := by
  cases x with
  | none => simp [amendWidthOk]
  | some n =>
    rcases w with _ | ⟨c, a⟩
    · simp [amendWidthOk]
    · cases a <;> simp [amendWidthOk, widthInRange_iff]

theorem amendBurstOk_iff {w : Work} {x : Option BurstItems} :
    amendBurstOk w x = true ↔ ∀ b, x = some b → b.InRange ∧ ∃ c y, w = .onChannel c (.burst y) := by
  cases x with
  | none => simp [amendBurstOk]
  | some b =>
    rcases w with _ | ⟨c, a⟩
    · simp [amendBurstOk]
    · cases a <;> simp [amendBurstOk, burstInRange_iff]

theorem amendDueOk_iff {r : ActionRecord} {x : Option (DueForm × Word)} :
    amendDueOk r x = true ↔
      (∀ v, x = some (.offset, v) → 1 ≤ v.toNat ∧ v.toNat ≤ Config.horizon r.what.base.domain)
      ∧ ∀ v, x = some (.absolute, v) → ∀ n, r.phase ≠ .parked n := by
  rcases x with _ | ⟨form, v⟩
  · simp [amendDueOk]
  · cases form with
    | offset => simp [amendDueOk, distanceInRange_iff]
    | absolute => cases hp : r.phase <;> simp [amendDueOk, Phase.isParked, hp]

theorem amendRepeatOk_iff {d : Domain} {x : Option RepeatChange} :
    amendRepeatOk d x = true ↔ ∀ y, x = some (.set y) → y.InRange d := by
  rcases x with _ | _ | y
  · simp [amendRepeatOk]
  · simp [amendRepeatOk]
  · simp only [amendRepeatOk, Option.some.injEq, RepeatChange.set.injEq, forall_eq']
    rw [Option.isSome_iff_exists]
    constructor
    · rintro ⟨z, hz⟩
      exact (checkRepeatItems_eq_some_iff.mp hz).1
    · intro hrange
      obtain ⟨-, -, hend | ⟨n, -, hcounted⟩⟩ := id hrange
      · exact ⟨⟨y.interval, none⟩, checkRepeatItems_eq_some_iff.mpr ⟨hrange, by simp [RepeatItemsGive, hend]⟩⟩
      · exact ⟨⟨y.interval, some n⟩, checkRepeatItems_eq_some_iff.mpr ⟨hrange, by simp [RepeatItemsGive, hcounted]⟩⟩

theorem amendGroupOk_iff {p : Phase} {x : Option Nat} :
    amendGroupOk p x = true ↔ (∀ g, x = some g → g ≤ 15) ∧ (x = some 0 → ∀ n, p ≠ .parked n) := by
  rcases x with _ | g
  · simp [amendGroupOk]
  · cases p <;> simp [amendGroupOk, Phase.isParked]

theorem amendCarriesItem_iff {b : AmendBody} :
    amendCarriesItem b = true ↔ b.due ≠ none ∨ b.width ≠ none ∨ b.burst ≠ none ∨ b.priority ≠ none ∨ b.rep ≠ none
      ∨ b.keep ≠ none ∨ b.miss ≠ none ∨ b.group ≠ none := by
  simp only [amendCarriesItem, Bool.or_eq_true, Option.isSome_iff_ne_none, or_assoc]

/-- An AMEND passes step 2 of R92 exactly where its items meet its tables. -/
theorem amendFieldsOk_iff {b : AmendBody} {r : ActionRecord} : amendFieldsOk b r = true ↔ b.Meets r := by
  have hpriority : b.priority.getD 0 ≤ 3 ↔ ∀ p, b.priority = some p → p ≤ 3 := by cases b.priority <;> simp
  simp only [amendFieldsOk, Bool.and_eq_true, Bool.not_eq_true', decide_eq_true_iff, amendCarriesItem_iff, amendDueOk_iff,
    amendWidthOk_iff, amendBurstOk_iff, amendRepeatOk_iff, amendGroupOk_iff, hpriority]
  constructor
  · rintro ⟨⟨⟨⟨⟨⟨⟨hitem, hfixed⟩, hoffset, habsolute⟩, hwidth⟩, hburst⟩, hprio⟩, hrep⟩, hgroup, hkept⟩
    exact ⟨hitem, hfixed, hoffset, habsolute, hwidth, hburst, hprio, hrep, hgroup, hkept⟩
  · rintro ⟨hitem, hfixed, hoffset, habsolute, hwidth, hburst, hprio, hrep, hgroup, hkept⟩
    exact ⟨⟨⟨⟨⟨⟨⟨hitem, hfixed⟩, hoffset, habsolute⟩, hwidth⟩, hburst⟩, hprio⟩, hrep⟩, hgroup, hkept⟩

/-- A record's action in range is in range with the width or burst of an accepted AMEND (R92, R93). -/
theorem amendWork_inRange {b : AmendBody} {r : ActionRecord} (h : b.Meets r) (hr : r.what.work.inRange) :
    (amendWork b r.what.work).inRange := by
  unfold amendWork
  split
  · next c w hw =>
    rw [hw] at hr
    cases hb : b.width with
    | none => exact hr
    | some n => exact (h.width n hb).1
  · next c old hw =>
    rw [hw] at hr
    cases hb : b.burst with
    | none => exact hr
    | some x => exact burst_inRange (h.burst x hb).1
  · exact hr

/-- A template in range is in range with the items of an accepted AMEND (R92, R93). -/
theorem amendTemplate_inRange {b : AmendBody} {r : ActionRecord} (h : b.Meets r) (hr : r.what.InRange) :
    (amendTemplate b r.what).InRange := by
  refine ⟨amendWork_inRange h hr.work, fun x hx => ?_⟩
  simp only [amendTemplate] at hx
  split at hx
  · exact hr.rep x hx
  · cases hx
  · obtain ⟨hrange, hgives⟩ := checkRepeatItems_eq_some_iff.mp hx
    exact hgives.inRange hrange

theorem amendWork_eq_mark_iff {b : AmendBody} {w : Work} : amendWork b w = .mark ↔ w = .mark := by
  unfold amendWork
  split <;> simp

end Sys2Proof.Machine
end

section
/-! SUPPORT. Every request's claim, by how it goes: refused without any change, or answered after a run or the exit from the
quiesced condition (R88, R174, R177). -/

namespace Sys2Proof.Machine

/-- What an accepted claim leaves: a run's result, or that of the exit from the quiesced condition (R143, R147). -/
def Taken (s t : State) : Prop := Runs s t ∨ (s.quiesce.mirror = .high ∧ s.quiesce.latch = true ∧ t = s.exitQuiesce)

/-- A claim's outcome: a refusal that changes nothing, or an answer OK (R88, R177). -/
def Settled (s : State) (x : State × Reply) : Prop :=
  (∃ r, r ≠ .ok ∧ x = refuse s r) ∨ ∃ t bytes, x = answer t bytes ∧ Taken s t

section
variable {s t : State} {bytes : List Byte}

theorem Settled.refused {r : Result} (h : r ≠ .ok) : Settled s (refuse s r) := .inl ⟨r, h, rfl⟩

theorem Settled.ran (h : Runs s t) : Settled s (answer t bytes) := .inr ⟨t, bytes, rfl, .inl h⟩

theorem Settled.same : Settled s (answer s bytes) := .ran (.refl s)

theorem Settled.quiet (h : QuietMove s t) : Settled s (answer t bytes) := .ran h.runs

theorem Settled.withPad {p : PadOnly} {claim : State → State × Reply} (h : Settled s (claim s)) :
    Settled s (withPad p s claim) := by
  cases p with
  | fits u => exact h
  | unfit => exact .refused (by decide)

theorem Settled.withItems {α : Type} {p : Payload α} {claim : α → State → State × Reply} (h : ∀ a, Settled s (claim a s)) :
    Settled s (withItems p s claim) := by
  cases p with
  | fits a => exact h a
  | unfit => exact .refused (by decide)

theorem padOr_ne_ok (code : Byte) (p : PadOnly) {r : Result} (h : r ≠ .ok) : padOr code p r ≠ .ok := by
  unfold padOr
  split
  · exact h
  · split
    · decide
    · exact h

end

/-! ### Table requests -/

variable {s : State}

theorem settingsClaim_settled (p : Payload SettingsItems) : Settled s (settingsClaim p s) := by
  unfold settingsClaim
  split
  · exact .refused (by decide)
  · split
    · exact .refused (by decide)
    · next a =>
      split
      · exact .refused (by decide)
      · next h =>
        have hrange : a.reserve ≤ 64 ∧ a.lowThreshold ≤ 127 := by simpa using h
        exact .ran (.inr (Moves.refl.loud (.settings hrange.1 hrange.2)).report)

theorem settingsReadClaim_settled (p : PadOnly) : Settled s (settingsReadClaim p s) := by
  unfold settingsReadClaim
  split
  · exact .refused (padOr_ne_ok _ _ (by decide))
  · exact .withPad .same

theorem spec_inRange_of_checkArm {a : ArmItems} {x : ArmSpec} (h : checkArm a = some x) : x.what.InRange :=
  inRange_of_checkRecord (checkArm_eq_some_iff.mp h).1

/-- The record of an accepted ARM may be written into any FREE slot (R89, R90, R91). -/
theorem State.armsFresh_armRecord {a : ArmItems} {x : ArmSpec} (h : checkArm a = some x)
    (hrange : ¬ (x.start = .armed ∧ outOfHorizon s x.what.base x.form x.value = true))
    (hhoming : ¬ (x.what.base.domain = .position ∧ s.time.homing = true)) (hn : s.normal) {i : SlotIx}
    (hi : s.table.recordAt i = none) : s.ArmsFresh i (armRecord s x) := by
  obtain ⟨-, -, hstart, hform, hgroup, hallows⟩ := checkArm_eq_some_iff.mp h
  have hwhat := spec_inRange_of_checkArm h
  have hgroups : ∀ g, x.group = some g → 1 ≤ g ∧ g ≤ 15 := hgroup ▸ hallows.group
  have hhomes : x.what.base.domain = .position → s.time.homing = false := fun hb => by simpa [hb] using hhoming
  cases hs : x.start with
  | parked =>
    obtain ⟨hoffset, hsome⟩ := hallows.parked (hstart ▸ hs)
    have hvalue := hallows.offset hoffset
    simp only [armRecord, hs]
    refine ⟨hi, hn, rfl, .inl ⟨_, rfl, hgroup ▸ hsome⟩, hhomes, ⟨hwhat, fun n hp => ?_, hgroups, by simp [Template.newRecord], by
      simp [Template.newRecord]⟩, fun due _ hp => by cases hp⟩
    cases hp
    exact hvalue
  | armed =>
    simp only [armRecord, hs]
    refine ⟨hi, hn, rfl, .inr ⟨_, rfl⟩, hhomes, ⟨hwhat, fun n hp => (by cases hp), hgroups, by simp [Template.newRecord], by
      simp [Template.newRecord]⟩, fun due hb hp => ?_⟩
    cases hp
    change x.what.base = .time at hb
    rw [hb] at hrange hallows ⊢
    exact formDue_time_ahead (fun hf => (hallows.offset (hform ▸ hf)).2) (by simpa [hs] using hrange)

theorem armClaim_settled (p : Payload ArmItems) : Settled s (armClaim p s) := by
  unfold armClaim
  split
  · exact .refused (by decide)
  · split
    · exact .refused (by decide)
    · next x hx =>
      split
      · exact .refused (by decide)
      · next hrange =>
        split
        · exact .refused (by decide)
        · next hhoming =>
          split
          · exact .refused (by decide)
          · next hsweep =>
            have hn : s.normal := s.sweeping_eq_false_iff.mp (by simpa using hsweep)
            split
            · exact .refused (by decide)
            · next i rest hfree =>
              have hi : s.table.recordAt i = none := (s.table.mem_freeSlots i).mp (by simp [hfree])
              exact .ran (.inr (Moves.refl.loud (.arm (State.armsFresh_armRecord hx hrange hhoming hn hi))).report)

theorem checkHandle_error_ne_ok {h : HandleItems} {e : Result} (he : checkHandle s h = .error e) : e ≠ .ok := by
  unfold checkHandle at he
  split at he
  · cases he; decide
  · split at he
    · cases he; decide
    · split at he
      · split at he
        · cases he
        · cases he; decide
      · cases he; decide

theorem recordAt_of_checkHandle {h : HandleItems} {i : SlotIx} {r : ActionRecord} (hc : checkHandle s h = .ok (i, r)) :
    s.table.recordAt i = some r := ((checkHandle_eq_ok s h i r).mp hc).2.2.1

/-- An accepted AMEND replaces its record (R92, R93). -/
theorem State.replaces_amendRecord {b : AmendBody} {r : ActionRecord} (hactive : r.phase.isDone = false) (h : b.Meets r)
    (hgroup : ¬ (b.group.isSome && !r.phase.isParked) = true)
    (hdue : ¬ b.due.any (fun x => outOfHorizon s r.what.base x.1 x.2) = true) : s.Replaces r (amendRecord s r b) := by
  have hsome (g : Nat) (hb : b.group = some g) : r.phase.isParked = true := by simpa [hb] using hgroup
  have hgroups : (amendRecord s r b).group = r.group ∨ r.phase.isParked = true ∧ (amendRecord s r b).group ≠ none := by
    cases hb : b.group with
    | none => exact .inl (by simp [amendRecord, hb])
    | some g => exact .inr ⟨hsome g hb, by simp [amendRecord, hb]⟩
  have hphase : (amendRecord s r b).phase = amendPhase s r b.due := rfl
  have hcases : (b.due = none ∧ amendPhase s r b.due = r.phase)
      ∨ (∃ form v n, b.due = some (form, v) ∧ r.phase = .parked n ∧ amendPhase s r b.due = .parked v.toNat)
      ∨ ∃ form v, b.due = some (form, v) ∧ r.phase.isParked = false
        ∧ amendPhase s r b.due = .armed (formDue s r.what.base form v) := by
    rcases hb : b.due with _ | ⟨form, v⟩
    · exact .inl ⟨rfl, rfl⟩
    · cases hp : r.phase with
      | parked n => exact .inr (.inl ⟨form, v, n, rfl, rfl, by simp [amendPhase, hp]⟩)
      | _ => exact .inr (.inr ⟨form, v, rfl, rfl, by simp [amendPhase, hp]⟩)
  refine ⟨hactive, ?_, rfl, rfl, ?_, fun hs => ?_, hgroups, fun hr => ⟨amendTemplate_inRange h hr.what, fun n hn => ?_, fun g hg => ?_,
    hr.ordinal, hr.counts⟩, fun _ due hb hp => ?_⟩
  · rw [hphase]
    rcases hcases with ⟨-, e⟩ | ⟨form, v, n, -, -, e⟩ | ⟨form, v, -, -, e⟩ <;> rw [e]
    · exact hactive
    · rfl
    · rfl
  · rw [hphase]
    rcases hcases with ⟨-, e⟩ | ⟨form, v, n, -, hp, e⟩ | ⟨form, v, -, hp, e⟩ <;> rw [e]
    · rw [hp]; rfl
    · rw [hp]; rfl
  · rw [hphase] at hs
    rcases hcases with ⟨-, e⟩ | ⟨form, v, n, -, -, e⟩ | ⟨form, v, -, -, e⟩ <;> rw [e] at hs
    · exact ⟨hs, amendWork_eq_mark_iff.mp⟩
    · cases hs
    · cases hs
  · rw [hphase] at hn
    rcases hcases with ⟨-, e⟩ | ⟨form, v, k, hd, hp, e⟩ | ⟨form, v, -, -, e⟩ <;> rw [e] at hn
    · exact hr.offset n hn
    · cases hn
      cases form with
      | offset => exact h.offset v hd
      | absolute => exact absurd hp (h.absolute v hd k)
    · cases hn
  · cases hb : b.group with
    | none => exact hr.group g (by simpa [amendRecord, hb] using hg)
    | some x =>
      have hx : x = g := by simpa [amendRecord, hb] using hg
      obtain ⟨k, hk⟩ := (Phase.isParked_iff _).mp (hsome x hb)
      have hne : x ≠ 0 := fun e => h.kept_group (e ▸ hb) k hk
      have hle := h.group x hb
      omega
  · rw [hphase] at hp
    rcases hcases with ⟨-, e⟩ | ⟨form, v, n, -, -, e⟩ | ⟨form, v, hd, -, e⟩ <;> rw [e] at hp
    · exact .inl hp
    · cases hp
    · cases hp
      refine .inr ?_
      rw [hb]
      refine formDue_time_ahead (fun hf => ?_) (by simpa [hd, hb] using hdue)
      subst hf
      have := (h.offset v hd).2
      rwa [hb] at this

theorem amendClaim_settled (a : AmendItems) : Settled s (amendClaim a s) := by
  unfold amendClaim
  split
  · next e he => exact .refused (checkHandle_error_ne_ok he)
  · next i r hc =>
    split
    · exact .refused (by decide)
    · next hactive =>
      split
      · exact .refused (by decide)
      · next b _ =>
        split
        · exact .refused (by decide)
        · next hfields =>
          split
          · exact .refused (by decide)
          · next hgroup =>
            split
            · exact .refused (by decide)
            · next hdue =>
              have hmeets : b.Meets r := amendFieldsOk_iff.mp (by simpa using hfields)
              exact .quiet (.replace (recordAt_of_checkHandle hc)
                (State.replaces_amendRecord (by simpa using hactive) hmeets hgroup hdue))

theorem retireClaim_settled (h : HandleItems) : Settled s (retireClaim h s) := by
  unfold retireClaim
  split
  · next e he => exact .refused (checkHandle_error_ne_ok he)
  · next i r hc =>
    split
    · exact .refused (by decide)
    · next hactive =>
      exact .ran (.inl (Moves.refl.loud
        (State.finish_move (recordAt_of_checkHandle hc) (by simpa using hactive) rfl rfl id .retired)).report)

theorem goGroupClaim_settled (g : Nat) : Settled s (goGroupClaim g s) := by
  unfold goGroupClaim
  split
  · exact .refused (by decide)
  · split
    · exact .refused (by decide)
    · split
      · exact .refused (by decide)
      · split
        · exact .refused (by decide)
        · next hhoming =>
          refine .ran (.inl (State.goAll_moves (s.table.slotsWith_nodup _) fun i hi => ?_))
          obtain ⟨r, hr, hmember⟩ := (s.table.mem_slotsWith _ i).mp hi
          obtain ⟨hparked, hgroup⟩ := Bool.and_eq_true_iff.mp hmember
          obtain ⟨n, hn⟩ := (Phase.isParked_iff _).mp hparked
          refine ⟨r, n, hr, hn, fun hb => ?_⟩
          have hposition : s.table.parkedPosition g = true :=
            (s.table.parkedPosition_eq_true g).mpr ⟨i, r, hr, (s.table.mem_parkedIn g i).mp hi, hb⟩
          simpa [hposition] using hhoming

theorem retireGroupClaim_settled (g : Nat) : Settled s (retireGroupClaim g s) := by
  unfold retireGroupClaim
  split
  · exact .refused (by decide)
  · split
    · exact .refused (by decide)
    · obtain ⟨b, h⟩ := s.retireAll_moves .groupRetired (s.table.activeIn g)
      exact .ran (.inl h.report)

theorem peekClaim_settled (h : HandleItems) : Settled s (peekClaim h s) := by
  unfold peekClaim
  split
  · next e he => exact .refused (checkHandle_error_ne_ok he)
  · exact .same

theorem scanClaim_settled (n : Nat) : Settled s (scanClaim n s) := by
  unfold scanClaim
  split
  · exact .refused (by decide)
  · split
    · exact .refused (by decide)
    · split
      · exact .refused (by decide)
      · exact .same

theorem nextDueClaim_settled (p : PadOnly) : Settled s (nextDueClaim p s) := by
  unfold nextDueClaim
  split
  · exact .refused (padOr_ne_ok _ _ (by decide))
  · split
    · exact .refused (padOr_ne_ok _ _ (by decide))
    · exact .withPad .same

/-! ### Requests on the timebases -/

theorem State.timeChange_of_same {x : Timebases} (hd : x.divisor = s.time.divisor) (hg : x.grainPhase = s.time.grainPhase)
    (ht : x.tbT = s.time.tbT) (hh : x.homing = true → s.time.homing = true) : s.TimeChange x :=
  ⟨.inl ⟨hd, hg⟩, .inl ht, fun h => .inl (hh h)⟩

theorem setGrainClaim_settled (n : Nat) : Settled s (setGrainClaim n s) := by
  unfold setGrainClaim
  split
  · exact .refused (by decide)
  · next hrange =>
    split
    · exact .refused (by decide)
    · split
      · exact .refused (by decide)
      · next hbusy =>
        have hn : 1 ≤ n ∧ n ≤ 4096 := by simpa [Nat.one_le_iff_ne_zero] using hrange
        have hpulse : s.channels.any Channel.pulsing = false := by
          simp only [Bool.or_eq_true, not_or, Bool.not_eq_true] at hbusy
          exact hbusy.1
        refine .quiet (.time ⟨.inr ⟨hn.1, hn.2, rfl, fun c => ?_⟩, .inl rfl, .inl⟩)
        exact Bool.eq_false_iff.mpr fun hc =>
          Bool.eq_false_iff.mp hpulse (Vector.any_eq_true.mpr ⟨c.val, c.isLt, hc⟩)

theorem setTClaim_settled (v : Word) : Settled s (setTClaim v s) := by
  unfold setTClaim
  split
  · exact .refused (by decide)
  · next h => exact .quiet (.time ⟨.inl ⟨rfl, rfl⟩, .inr (by simpa using h), .inl⟩)

theorem homePClaim_settled (v : Word) : Settled s (homePClaim v s) := by
  unfold homePClaim
  split
  · exact .refused (by decide)
  · next h => exact .quiet (.time ⟨.inl ⟨rfl, rfl⟩, .inl rfl, fun _ => .inr (by simpa using h)⟩)

theorem setPClaim_settled (v : Word) : Settled s (setPClaim v s) := by
  unfold setPClaim
  split
  · exact .refused (by decide)
  · exact .quiet (.time (State.timeChange_of_same rfl rfl rfl id))

/-! ### Requests on the channels, the sense inputs and the bindings -/

theorem chanConfigClaim_settled (a : ChanConfigItems) : Settled s (chanConfigClaim a s) := by
  unfold chanConfigClaim
  split
  · exact .refused (by decide)
  · split
    · exact .refused (by decide)
    · next hflight =>
      split
      · exact .refused (by decide)
      · exact .quiet (.channel (s.channelChange_configure (by simpa using hflight) _ _ _))

theorem chanReadClaim_settled (n : Nat) : Settled s (chanReadClaim n s) := by
  unfold chanReadClaim
  split
  · exact .refused (by decide)
  · exact .same

theorem prescaleOk_iff {n : Nat} : prescaleOk n = true ↔ n = 1 ∨ n = 2 ∨ n = 4 ∨ n = 8 := by
  simp [prescaleOk, or_assoc]

theorem SenseInput.configure_inRange {x : SenseInput} {a : SenseConfigItems} (hp : prescaleOk a.prescale = true)
    (hg : a.gap ≤ 65535) : (x.configure a).InRange := by
  have hprescale := prescaleOk_iff.mp hp
  refine ⟨hprescale, ?_, hg, fun e he => by cases he⟩
  change 0 < a.prescale
  omega

theorem senseConfigClaim_settled (a : SenseConfigItems) : Settled s (senseConfigClaim a s) := by
  unfold senseConfigClaim
  split
  · exact .refused (by decide)
  · split
    · exact .refused (by decide)
    · next h =>
      have hok : prescaleOk a.prescale = true ∧ a.gap ≤ 65535 := by simpa using h
      exact .quiet (.sense fun _ => SenseInput.configure_inRange hok.1 hok.2)

theorem readStampClaim_settled (n : Nat) : Settled s (readStampClaim n s) := by
  unfold readStampClaim
  split
  · exact .refused (by decide)
  · exact .quiet (.sense fun h => ⟨h.prescale, h.counter, h.gap, h.tracker⟩)

/-- Accepted spawn steps lie in the ranges of R123. -/
theorem checkSteps_inRange {l : List StepItems} {ys : List SpawnStep} (h : checkSteps l = some ys) :
    ∀ y ∈ ys, y.what.InRange ∧ 1 ≤ y.offset ∧ y.offset ≤ Config.horizon y.what.base.domain := by
  have hsteps := checkSteps_eq_some_iff.mp h
  clear h
  induction hsteps with
  | nil => simp
  | cons hxy _ ih =>
    obtain ⟨hrecord, hoffset, he⟩ := checkStep_eq_some_iff.mp hxy
    have hdomain := checkBase_domain (checkRecord_eq_some_iff.mp hrecord).1
    refine List.forall_mem_cons.mpr ⟨⟨inRange_of_checkRecord hrecord, ?_⟩, ih⟩
    rw [he, hdomain]
    exact hoffset

theorem bindWriteClaim_settled (a : BindWriteItems) : Settled s (bindWriteClaim a s) := by
  unfold bindWriteClaim
  split
  · next b n steps _ _ hsteps =>
    split
    · exact .refused (by decide)
    · next hlength =>
      split
      · exact .refused (by decide)
      · next hdisabled =>
        split
        · exact .refused (by decide)
        · have hlen : 1 ≤ steps.length ∧ steps.length ≤ 4 := by simpa [Nat.one_le_iff_ne_zero] using hlength
          exact .quiet (.binding rfl fun h => ⟨hlen.2, checkSteps_inRange hsteps,
            fun he => absurd he hdisabled, Nat.zero_le _, h.live, Nat.zero_le _⟩)
  · exact .refused (by decide)

theorem bindEnableClaim_settled (n : Nat) : Settled s (bindEnableClaim n s) := by
  unfold bindEnableClaim
  split
  · exact .refused (by decide)
  · split
    · exact .refused (by decide)
    · next hsteps =>
      exact .quiet (.binding rfl fun h => ⟨h.steps, h.step, fun _ => by simpa using hsteps, h.ordinal, h.live, h.fails⟩)

theorem bindDisableClaim_settled (a : BindDisableItems) : Settled s (bindDisableClaim a s) := by
  unfold bindDisableClaim
  split
  · exact .refused (by decide)
  · next b _ =>
    have hoff : QuietMove s (s.setBinding b { s.bindings[b] with enabled := false }) :=
      .binding rfl fun h => ⟨h.steps, h.step, fun he => (by cases he), h.ordinal, h.live, h.fails⟩
    dsimp only
    split
    · obtain ⟨c, h⟩ := State.retireAll_moves .bindingRetired
        ((s.setBinding b { s.bindings[b] with enabled := false }).table.spawnedBy b)
        (s.setBinding b { s.bindings[b] with enabled := false })
      exact .ran (.inl ((Moves.refl.quiet hoff).after h.report))
    · exact .quiet hoff

theorem bindReadClaim_settled (n : Nat) : Settled s (bindReadClaim n s) := by
  unfold bindReadClaim
  split
  · exact .refused (by decide)
  · exact .same

/-! ### Requests on Quiesce Control and the Attention Unit -/

theorem resumeClaim_settled (p : PadOnly) : Settled s (resumeClaim p s) := by
  unfold resumeClaim
  split
  · exact .refused (padOr_ne_ok _ _ (by decide))
  · next hmirror =>
    refine .withPad ?_
    split
    · next hlatch =>
      have hhigh : s.quiesce.mirror = .high := by
        cases h : s.quiesce.mirror with
        | high => rfl
        | low => exact absurd h hmirror
      exact .inr ⟨_, _, rfl, .inr ⟨hhigh, hlatch, rfl⟩⟩
    · exact .same

theorem collect_settled {i : SlotIx} {r : ActionRecord} (hr : s.table.recordAt i = some r) : Settled s (s.collect i r) :=
  .ran (.inl (Moves.refl.loud (.free hr rfl)).report)

theorem collectClaim_settled (h : Option HandleItems) : Settled s (collectClaim h s) := by
  unfold collectClaim
  split
  · unfold collectHead
    split
    · exact .refused (by decide)
    · split
      · exact .refused (by decide)
      · split
        · next hr => exact collect_settled hr
        · exact .refused (by decide)
  · unfold collectNamed
    split
    · next e he => exact .refused (checkHandle_error_ne_ok he)
    · next hc =>
      split
      · exact collect_settled (recordAt_of_checkHandle hc)
      · exact .refused (by decide)

end Sys2Proof.Machine
end

section
/-! SUPPORT. A step as the acts it is made of: runs, the exit from the quiesced condition, the passing of a period and the tick, the
resets, the acceptance of a TABLE_CLEAR and the end of its sweep, and what the link does by itself. -/

namespace Sys2Proof.Machine

/-! ### Requests -/

/-- Every request but TABLE_CLEAR and an accepted SOFT_RESET answers in its own claim, which refuses it or settles it (R174). -/
theorem exec_request {c : Instr} {tag : Byte} (h : requestTag c = some tag) :
    (∃ claim, (∀ s, exec c s = .next (s.submit tag claim)) ∧ ∀ s, Settled s (claim s))
    ∨ (∃ p, c = .tableClear tag p) ∨ c = .softReset tag (.fits ()) := by
  cases c <;> cases h
  case tableClear p => exact .inr (.inl ⟨p, rfl⟩)
  case softReset p =>
    cases p with
    | fits u => exact .inr (.inr rfl)
    | unfit => exact .inl ⟨_, fun _ => rfl, fun _ => .refused (by decide)⟩
  case unknownRequest => exact .inl ⟨_, fun _ => rfl, fun _ => .refused (by decide)⟩
  case settings p => exact .inl ⟨_, fun _ => rfl, fun _ => settingsClaim_settled p⟩
  case settingsRead p => exact .inl ⟨_, fun _ => rfl, fun _ => settingsReadClaim_settled p⟩
  case setGrain p => exact .inl ⟨_, fun _ => rfl, fun _ => .withItems setGrainClaim_settled⟩
  case startT p =>
    exact .inl ⟨_, fun _ => rfl, fun _ => .withPad (.quiet (.time (State.timeChange_of_same rfl rfl rfl id)))⟩
  case stopT p =>
    exact .inl ⟨_, fun _ => rfl, fun _ => .withPad (.quiet (.time (State.timeChange_of_same rfl rfl rfl id)))⟩
  case setT p => exact .inl ⟨_, fun _ => rfl, fun _ => .withItems setTClaim_settled⟩
  case readT p => exact .inl ⟨_, fun _ => rfl, fun _ => .withPad .same⟩
  case homeP p => exact .inl ⟨_, fun _ => rfl, fun _ => .withItems homePClaim_settled⟩
  case cancelHome p =>
    exact .inl ⟨_, fun _ => rfl, fun _ => .withPad (.quiet (.time (State.timeChange_of_same rfl rfl rfl nofun)))⟩
  case setP p => exact .inl ⟨_, fun _ => rfl, fun _ => .withItems setPClaim_settled⟩
  case readP p => exact .inl ⟨_, fun _ => rfl, fun _ => .withPad .same⟩
  case chanConfig p => exact .inl ⟨_, fun _ => rfl, fun _ => .withItems chanConfigClaim_settled⟩
  case chanRead p => exact .inl ⟨_, fun _ => rfl, fun _ => .withItems chanReadClaim_settled⟩
  case arm p => exact .inl ⟨_, fun _ => rfl, fun _ => armClaim_settled p⟩
  case amend p => exact .inl ⟨_, fun _ => rfl, fun _ => .withItems amendClaim_settled⟩
  case retire p => exact .inl ⟨_, fun _ => rfl, fun _ => .withItems retireClaim_settled⟩
  case goGroup p => exact .inl ⟨_, fun _ => rfl, fun _ => .withItems goGroupClaim_settled⟩
  case retireGroup p => exact .inl ⟨_, fun _ => rfl, fun _ => .withItems retireGroupClaim_settled⟩
  case peek p => exact .inl ⟨_, fun _ => rfl, fun _ => .withItems peekClaim_settled⟩
  case scan p => exact .inl ⟨_, fun _ => rfl, fun _ => .withItems scanClaim_settled⟩
  case nextDue p => exact .inl ⟨_, fun _ => rfl, fun _ => nextDueClaim_settled p⟩
  case senseConfig p => exact .inl ⟨_, fun _ => rfl, fun _ => .withItems senseConfigClaim_settled⟩
  case readStamp p => exact .inl ⟨_, fun _ => rfl, fun _ => .withItems readStampClaim_settled⟩
  case bindWrite p => exact .inl ⟨_, fun _ => rfl, fun _ => .withItems bindWriteClaim_settled⟩
  case bindEnable p => exact .inl ⟨_, fun _ => rfl, fun _ => .withItems bindEnableClaim_settled⟩
  case bindDisable p => exact .inl ⟨_, fun _ => rfl, fun _ => .withItems bindDisableClaim_settled⟩
  case bindRead p => exact .inl ⟨_, fun _ => rfl, fun _ => .withItems bindReadClaim_settled⟩
  case quiesce p => exact .inl ⟨_, fun _ => rfl, fun _ => .withPad (.quiet .trip)⟩
  case resume p => exact .inl ⟨_, fun _ => rfl, fun _ => resumeClaim_settled p⟩
  case quiesceRead p => exact .inl ⟨_, fun _ => rfl, fun _ => .withPad .same⟩
  case collect p => exact .inl ⟨_, fun _ => rfl, fun _ => .withItems collectClaim_settled⟩
  case readAttention p => exact .inl ⟨_, fun _ => rfl, fun _ => .withPad .same⟩
  case ackAttention p =>
    exact .inl ⟨_, fun _ => rfl, fun s => .withItems fun set => .quiet (.attention (s.attention.eventChange_ack set))⟩
  case setMask p =>
    exact .inl ⟨_, fun _ => rfl, fun s => .withItems fun set => .quiet (.attention (s.attention.eventChange_mask set))⟩
  case ident p => exact .inl ⟨_, fun _ => rfl, fun _ => .withPad .same⟩

/-- A request that the decoder gives is taken as the dispatch takes it (R174). -/
theorem takeRequest_eq_exec {c : Instr} {tag : Byte} (h : requestTag c = some tag) (s : State) :
    takeRequest c s = exec c s := by
  cases c <;> first | rfl | cases h

/-! ### Acts -/

/-- The part as a reset leaves it: the tabled values, the link with filled entries only and no window in progress
(R179, R180). -/
structure FreshlyReset (t : State) : Prop where
  values : ∃ a b z q sen, AtResetValues t a b z q sen
  capacity : t.link.queue.length ≤ 1
  filled : ∀ e ∈ t.link.queue, e.reply ≠ none
  window : ∀ w, t.link.window ≠ .inProgress w

/-- What the link does by itself: its latches, a window's beginning and end, and the head response consumed (R170 to R173). -/
inductive State.LinkChange (s : State) : Link → Prop
  | latches {k : Link} (hq : k.queue = s.link.queue) (hw : k.window = s.link.window) : s.LinkChange k
  | opened : s.LinkChange { s.link with window := .inProgress s.openWindow }
  | closed {w : Window} (n : Nat) (h : s.link.window = .inProgress w) : s.LinkChange (s.link.closed w n)
  | ended : s.LinkChange { s.link with window := .idle }

/-- The table at the end of a sweep (R106). -/
def ActionTable.swept (t : ActionTable) : ActionTable := { t with slots := t.slots.map Slot.swept, sweep := none }

/-- What a step is made of. -/
inductive Act (s : State) : State → Prop
  | runs {t : State} (h : Runs s t) : Act s t
  | exit (mirror : s.quiesce.mirror = .high) (latch : s.quiesce.latch = true) : Act s s.exitQuiesce
  | freeIx (n : Nat) : Act s (s.setFreeIx n)
  | taken (rest : List Instr) : Act s { s with pending := rest }
  | period : Act s s.refclkPeriod
  | tick : Act s s.settleTick.tickAll
  | reset {t : State} (h : FreshlyReset t) : Act s t
  | link {k : Link} (h : s.LinkChange k) : Act s (s.setLink k)
  | reply {e : Entry} (h : s.link.blocked = false) (he : e.reply ≠ none) : Act s (s.enqueue e)
  | clear (tag : Byte) (h : s.link.blocked = false) (hn : s.normal) : Act s (s.clearTable.enqueue { tag := tag, reply := none })
  | sweepEnd {n : Nat} (h : s.table.sweep = some n) : Act s ((s.setTable s.table.swept).setLink
      { s.link with queue := s.link.queue.map (fillReserved { result := .ok, payload := [u8 n] }) })

/-- Acts one after another. -/
abbrev Acts : State → State → Prop := Relation.ReflTransGen Act

theorem Act.acts {s t : State} (h : Act s t) : Acts s t := .single h

theorem QuietMove.acts {s t : State} (h : QuietMove s t) : Acts s t := (Act.runs h.runs).acts

section
variable {s t : State}

/-- A change of the link's latches alone (R173). -/
theorem Acts.latched (h : Acts s t) {k : Link} (hq : k.queue = t.link.queue) (hw : k.window = t.link.window) :
    Acts s (t.setLink k) := h.trans (Act.link (.latches hq hw)).acts

/-- A change of the timebases that moves neither the grain nor TB-T and arms no homing. -/
theorem Acts.timed (h : Acts s t) {x : Timebases} (hd : x.divisor = t.time.divisor) (hg : x.grainPhase = t.time.grainPhase)
    (ht : x.tbT = t.time.tbT) (hh : x.homing = true → t.time.homing = true) : Acts s (t.setTime x) :=
  h.trans (QuietMove.time (State.timeChange_of_same hd hg ht hh)).acts

/-- A raise of an event cause (R160). -/
theorem Acts.raised (h : Acts s t) {c : Cause} (hc : c ≠ .donePending ∧ c ≠ .tableLow) : Acts s (t.raise c) :=
  h.trans (QuietMove.raise t hc).acts

end

theorem Taken.acts {s t : State} (h : Taken s t) : Acts s t := by
  rcases h with h | ⟨hmirror, hlatch, rfl⟩
  · exact (Act.runs h).acts
  · exact (Act.exit hmirror hlatch).acts

/-- What every act keeps, acts one after another keep. -/
theorem Acts.keeps {P : State → Prop} (h : ∀ {s t}, P s → Act s t → P t) {s t : State} (hs : P s) (m : Acts s t) : P t := by
  induction m with
  | refl => exact hs
  | tail _ m ih => exact h ih m

/-! ### Resets -/

/-- A reset leaves every block at its tabled values (R23, R41, R85, R121, R138, R154, R168). -/
theorem State.resetBlocks_values (s : State) (l : Lines) {t : ActionTable} (k : Link)
    (hslots : ∀ i, t.recordAt i = none ∧ (t.slot i).awaiting = false)
    (ht : t = { ActionTable.initial with slots := t.slots }) :
    AtResetValues (s.resetBlocks l t k) l.enca l.encb l.encz l.quiescen (fun n => l.sen[n]) where
  slots := hslots
  collections := by
    change t.suspended = [] ∧ t.doneList = []
    rw [ht]; exact ⟨rfl, rfl⟩
  settings := by
    change t.reserve = 8 ∧ t.lowThreshold = 16
    rw [ht]; exact ⟨rfl, rfl⟩
  normal := by
    change t.sweep = none
    rw [ht]; rfl
  timebases := rfl
  channels c := by simp [State.resetBlocks, Channel.initial]
  senses n := by simp [State.resetBlocks, SenseInput.initial]
  bindings b := by simp [State.resetBlocks, Binding.initial]
  quiesce := rfl
  attention := ⟨fun k => by simp [State.resetBlocks, Attention.initial, CauseState.initial], rfl⟩

theorem ActionTable.initial_slot (i : SlotIx) : ActionTable.initial.slot i = Slot.initial := by
  simp [ActionTable.initial, ActionTable.slot]

theorem ActionTable.softReset_slot (t : ActionTable) (i : SlotIx) : t.softReset.slot i = (t.slot i).softReset := by
  simp [ActionTable.softReset, ActionTable.slot]

/-- A hardware reset's values (R23, R180). -/
theorem State.resetBlocks_initial_values (s : State) (l : Lines) (k : Link) :
    AtResetValues (s.resetBlocks l ActionTable.initial k) l.enca l.encb l.encz l.quiescen (fun n => l.sen[n]) :=
  s.resetBlocks_values l k (fun i => by simp [ActionTable.recordAt, ActionTable.initial_slot, Slot.initial]) rfl

/-- SOFT_RESET's values (R23, R179). -/
theorem State.resetBlocks_soft_values (s : State) (l : Lines) (t : ActionTable) (k : Link) :
    AtResetValues (s.resetBlocks l t.softReset k) l.enca l.encb l.encz l.quiescen (fun n => l.sen[n]) :=
  s.resetBlocks_values l k (fun i => by simp [ActionTable.recordAt, ActionTable.softReset_slot, Slot.softReset]) rfl

/-- The tabled values are those of the blocks alone. -/
theorem AtResetValues.of_blocks {s t : State} {a b z q : Level} {sen : SenseIx → Level} (h : AtResetValues s a b z q sen)
    (htable : t.table = s.table) (htime : t.time = s.time) (hchannels : t.channels = s.channels)
    (hsenses : t.senses = s.senses) (hbindings : t.bindings = s.bindings) (hquiesce : t.quiesce = s.quiesce)
    (hattention : t.attention = s.attention) : AtResetValues t a b z q sen := by
  obtain ⟨h1, h2, h3, h4, h5, h6, h7, h8, h9, h10⟩ := h
  constructor <;> simp only [htable, htime, hchannels, hsenses, hbindings, hquiesce, hattention] <;> assumption

theorem State.release_values (s : State) (l : Lines) :
    AtResetValues (s.release l) l.enca l.encb l.encz l.quiescen (fun n => l.sen[n]) :=
  (s.resetBlocks_initial_values l (Link.initial (if l.csn = .low then .awaitRise else .idle))).of_blocks rfl rfl rfl rfl rfl rfl
    rfl

theorem State.hold_values (s : State) (l : Lines) :
    AtResetValues (s.hold l) l.enca l.encb l.encz l.quiescen (fun n => l.sen[n]) :=
  (s.resetBlocks_initial_values l (Link.initial .idle)).of_blocks rfl rfl rfl rfl rfl rfl rfl

theorem State.release_freshlyReset (s : State) (l : Lines) : FreshlyReset (s.release l) where
  values := ⟨_, _, _, _, _, s.release_values l⟩
  capacity := Nat.zero_le _
  filled := by simp [State.release, State.resetBlocks, Link.initial]
  window w := by
    change (if l.csn = .low then WindowState.awaitRise else .idle) ≠ _
    split <;> simp

theorem State.hold_freshlyReset (s : State) (l : Lines) : FreshlyReset (s.hold l) where
  values := ⟨_, _, _, _, _, s.hold_values l⟩
  capacity := Nat.zero_le _
  filled := by simp [State.hold, State.resetBlocks, Link.initial]
  window w := by simp [State.hold, State.resetBlocks, Link.initial]

/-- The part after an accepted SOFT_RESET (R179). -/
def State.softReset (s : State) (tag : Byte) : State :=
  (s.resetBlocks s.presentLines s.table.softReset (softResetLink tag)).setFreeIx (s.freeIx + 1)

theorem State.softReset_values (s : State) (tag : Byte) :
    AtResetValues (s.softReset tag) s.time.encA s.time.encB s.presentEncz s.quiesce.mirror
      (fun n => (s.presentLines.sen)[n]) :=
  (s.resetBlocks_soft_values s.presentLines s.table (softResetLink tag)).of_blocks rfl rfl rfl rfl rfl rfl rfl

theorem State.softReset_freshlyReset (s : State) (tag : Byte) : FreshlyReset (s.softReset tag) where
  values := ⟨_, _, _, _, _, s.softReset_values tag⟩
  capacity := le_refl 1
  filled e he := by
    obtain rfl := List.mem_singleton.mp he
    simp
  window w := by simp [State.softReset, State.resetBlocks, softResetLink]

/-! ### Happenings taken before an advance, a step or a period -/

/-- Happenings taken one after another are runs (R44, R78, R79). -/
theorem State.foldl_takeHappening_acts (l : List Happening) (s : State) : Acts s (l.foldl State.takeHappening s) := by
  induction l generalizing s with
  | nil => exact .refl
  | cons x rest ih => exact (Act.runs (s.takeHappening_runs x)).acts.trans (ih _)

theorem State.settle_acts (s : State) (l : List Happening) : Acts s (s.settle l) :=
  (Act.freeIx _).acts.trans (State.foldl_takeHappening_acts _ _)

theorem State.passPeriods_acts (n : Nat) (s : State) : Acts s (State.passPeriods n s) := by
  induction n generalizing s with
  | zero => exact .refl
  | succ n ih => exact ((s.settle_acts _).trans Act.period.acts).trans (ih s.passPeriod)

/-! ### Commands -/

/-- A request that answers in its claim (R174, R175, R180). -/
theorem State.submit_acts (s : State) (tag : Byte) {claim : State → State × Reply} (h : Settled s (claim s)) :
    Acts s (s.submit tag claim) := by
  cases hr : s.rstn with
  | low => rw [s.submit_low tag claim hr]
  | high =>
    cases hb : s.link.blocked with
    | true =>
      rw [s.submit_blocked tag claim hr hb]
      exact Acts.latched .refl rfl rfl
    | false =>
      rw [s.submit_accepted tag claim hr hb]
      have reply {t : State} (hl : t.link = s.link) (r : Reply) : Acts t (t.enqueue { tag := tag, reply := some r }) :=
        (Act.reply (by rw [hl, hb]) (by simp)).acts
      rcases h with ⟨r, -, hc⟩ | ⟨t, bytes, hc, ht⟩
      · rw [hc]
        exact reply rfl _
      · rw [hc]
        refine ht.acts.trans (reply ?_ _)
        rcases ht with ht | ⟨-, -, rfl⟩
        · exact ht.keepsLink.link
        · exact s.exitQuiesce_runs.keepsLink.link

theorem exec_tableClear (tag : Byte) (p : PadOnly) (s : State) :
    exec (.tableClear tag p) s = .next (s.submitEntry tag (tableClearClaim p)) := rfl

/-- TABLE_CLEAR's claim: a refusal, or the table cleared with no reply yet (R105). -/
theorem tableClearClaim_cases (p : PadOnly) (s : State) :
    (∃ r, r ≠ .ok ∧ tableClearClaim p s = (s, some { result := r, payload := [] }) ∧ ¬ (p = .fits () ∧ s.normal))
    ∨ (p = .fits () ∧ s.normal ∧ tableClearClaim p s = (s.clearTable, none)) := by
  unfold tableClearClaim
  cases hs : s.sweeping with
  | true =>
    have hn : ¬ s.normal := s.sweeping_eq_true_iff.mp hs
    exact .inl ⟨_, padOr_ne_ok 0x59 p (by decide : Result.busy ≠ .ok), rfl, fun h => hn h.2⟩
  | false =>
    cases p with
    | unfit => exact .inl ⟨.badField, by decide, rfl, by simp⟩
    | fits u => exact .inr ⟨rfl, s.sweeping_eq_false_iff.mp hs, rfl⟩

theorem State.submitEntry_tableClear_acts (s : State) (tag : Byte) (p : PadOnly) :
    Acts s (s.submitEntry tag (tableClearClaim p)) := by
  unfold State.submitEntry
  split
  · exact .refl
  · split
    · exact Acts.latched .refl rfl rfl
    · next hb =>
      have hb : s.link.blocked = false := by simpa using hb
      rcases tableClearClaim_cases p s with ⟨r, -, hc, -⟩ | ⟨-, hn, hc⟩ <;> rw [hc]
      · exact (Act.reply hb (by simp)).acts
      · exact (Act.clear tag hb hn).acts

theorem exec_softReset_fits (tag : Byte) (s : State) : exec (.softReset tag (.fits ())) s =
    .next (if s.rstn = .low then s else if s.link.blocked then s.setLink { s.link with refusal := true }
      else s.softReset tag) := rfl

/-- Every request is acts (R174). -/
theorem exec_request_acts {c : Instr} {tag : Byte} (h : requestTag c = some tag) {s t : State} (ht : exec c s = .next t) :
    Acts s t := by
  rcases exec_request h with ⟨claim, hexec, hclaim⟩ | ⟨p, rfl⟩ | rfl
  · rw [hexec] at ht
    cases ht
    exact s.submit_acts tag (hclaim s)
  · cases ht
    exact s.submitEntry_tableClear_acts tag p
  · rw [exec_softReset_fits] at ht
    cases ht
    split
    · exact .refl
    · split
      · exact Acts.latched .refl rfl rfl
      · exact (Act.reset (s.softReset_freshlyReset tag)).acts

/-- Every code's frame is read as a request under its tag (R181). -/
theorem requestTag_decodeRequest (code tag : Byte) (payload : List Byte) :
    requestTag (decodeRequest code tag payload) = some tag := by
  unfold decodeRequest
  split <;> rfl

theorem State.endWait_acts (s : State) : Acts s s.endWait := by
  unfold State.endWait
  split
  · exact (Act.link .ended).acts
  · exact .refl

/-- A window close is the link's own changes and, for a good frame, its request (R173). -/
theorem State.closeWindow_acts {s t : State} {w : Window} (hw : s.link.window = .inProgress w) {bytes : List Byte}
    (ht : s.closeWindow w bytes = .next t) : Acts s t := by
  have hclose : Acts s (s.setLink (s.link.closed w bytes.length)) := (Act.link (.closed _ hw)).acts
  unfold State.closeWindow at ht
  dsimp only at ht
  split at ht
  · cases ht; exact hclose
  · split at ht
    · cases ht; exact hclose.latched rfl rfl
    · split at ht
      · cases ht
        refine Acts.raised ?_ (by decide)
        exact hclose.latched rfl rfl
      · next tag code payload _ =>
        have htag := requestTag_decodeRequest code tag payload
        rw [takeRequest_eq_exec htag] at ht
        exact hclose.trans (exec_request_acts htag ht)

/-- What nothing but a reset does while RSTn is low (R180). -/
theorem acts_of_rstn {s t u : State} (h : Acts s u)
    (ht : (Host.Outcome.next (if s.rstn = .low then s else u) : Host.Outcome State Fault Refusal) = .next t) : Acts s t := by
  cases ht
  split
  · exact .refl
  · exact h

/-- Every command is acts. -/
theorem exec_acts (c : Instr) {s t : State} (ht : exec c s = .next t) : Acts s t := by
  by_cases hrequest : ∃ tag, requestTag c = some tag
  · obtain ⟨tag, htag⟩ := hrequest
    exact exec_request_acts htag ht
  cases c <;> first | exact absurd ⟨_, rfl⟩ hrequest | skip
  case powerOn v l =>
    cases ht
    split
    · exact (Act.reset (s.hold_freshlyReset l)).acts
    · exact (Act.reset (s.release_freshlyReset l)).acts
  case rstnLow => cases ht; exact (Act.reset (s.hold_freshlyReset _)).acts
  case rstnHigh l =>
    cases ht
    split
    · exact .refl
    · exact (Act.reset (s.release_freshlyReset l)).acts
  case windowClose mosi =>
    simp only [exec, execWindowClose] at ht
    split at ht
    · cases ht; exact .refl
    · split at ht
      · next hw => exact State.closeWindow_acts hw ht
      · cases ht; exact s.endWait_acts
  case grainTick => exact acts_of_rstn ((State.passPeriods_acts _ s).trans Act.tick.acts) ht
  case fallingDue x => exact acts_of_rstn (Act.runs (s.takeClaim_runs x)).acts ht
  case pulseEnd c => exact acts_of_rstn (QuietMove.channel (s.channelChange_endPulse _)).acts ht
  case burstPhaseChange c => exact acts_of_rstn (QuietMove.channel (s.channelChange_phaseChange _)).acts ht
  case encoderStep d =>
    refine acts_of_rstn ?_ ht
    exact (s.settle_acts _).timed rfl rfl rfl id
  case encoderFault =>
    refine acts_of_rstn ?_ ht
    refine Acts.raised ?_ (by decide)
    exact Acts.timed .refl rfl rfl rfl id
  case enczRisingEdge =>
    refine acts_of_rstn ?_ ht
    split
    · refine Acts.raised ?_ (by decide)
      exact Acts.timed .refl rfl rfl rfl nofun
    · exact Acts.timed .refl rfl rfl rfl id
  case senseEdge n v =>
    refine acts_of_rstn ?_ ht
    split
    · exact .refl
    · exact (Act.runs (s.edge_runs n v)).acts
  case quiescenFallingEdge =>
    refine acts_of_rstn ?_ ht
    split
    · exact .refl
    · have hlatch : s.trip.quiesce.latch = true := by unfold State.trip; split <;> rfl
      refine Acts.raised ?_ (by decide)
      exact QuietMove.trip.acts.trans (QuietMove.mirror fun _ => hlatch).acts
  case quiescenRisingEdge => exact acts_of_rstn (QuietMove.mirror (v := .high) nofun).acts ht
  case sweepEnd =>
    refine acts_of_rstn ?_ ht
    split
    · exact .refl
    · next h => exact (Act.sweepEnd h).acts
  case windowStart =>
    refine acts_of_rstn ?_ ht
    split
    · exact (Act.link .opened).acts
    · exact .refl
  case csnRiseAfterReset => exact acts_of_rstn s.endWait_acts ht

/-- Every step is acts. -/
theorem step_acts {s t : State} (ht : step s = .next t) : Acts s t := by
  unfold step at ht
  split at ht
  · split at ht
    · exact (Act.freeIx _).acts.trans (exec_acts _ ht)
    · cases ht; exact Act.period.acts
  · exact (Act.taken _).acts.trans (exec_acts _ ht)

end Sys2Proof.Machine
end

section
/-! SUPPORT. An invariant of the blocks that every act keeps is kept by every step. What becomes of each record in a change, and the
collections after one (R17, R20, R21). -/

namespace Sys2Proof.Machine

/-! ### Invariants of the blocks -/

/-- The two states differ at most in the commands waiting, RSTn, the link and the count of free choices. -/
structure SameBlocks (s t : State) : Prop where
  table : t.table = s.table
  time : t.time = s.time
  channels : t.channels = s.channels
  senses : t.senses = s.senses
  bindings : t.bindings = s.bindings
  quiesce : t.quiesce = s.quiesce
  attention : t.attention = s.attention

/-- An invariant of the blocks that every act keeps. -/
structure BlockInvariant (P : State → Prop) : Prop where
  blocks : ∀ {s t}, P s → SameBlocks s t → P t
  runs : ∀ {s t}, P s → Runs s t → P t
  exit : ∀ {s}, P s → s.quiesce.mirror = .high → s.quiesce.latch = true → P s.exitQuiesce
  period : ∀ {s}, P s → P s.refclkPeriod
  tick : ∀ {s}, P s → P s.settleTick → P s.settleTick.tickAll
  clear : ∀ {s}, P s → s.normal → P s.clearTable
  sweepEnd : ∀ {s n}, P s → s.table.sweep = some n → P (s.setTable s.table.swept)
  reset : ∀ {t a b z q sen}, AtResetValues t a b z q sen → P t

theorem BlockInvariant.settle {P : State → Prop} (h : BlockInvariant P) {s : State} (hs : P s) (l : List Happening) :
    P (s.settle l) := by
  have hfold : ∀ (l : List Happening) (s : State), P s → P (l.foldl State.takeHappening s) := by
    intro l
    induction l with
    | nil => exact fun _ h => h
    | cons x rest ih => exact fun s hs => ih _ (h.runs hs (s.takeHappening_runs x))
  exact hfold _ _ (h.blocks hs ⟨rfl, rfl, rfl, rfl, rfl, rfl, rfl⟩)

theorem BlockInvariant.act {P : State → Prop} (h : BlockInvariant P) {s t : State} (hs : P s) (m : Act s t) : P t := by
  cases m with
  | runs m => exact h.runs hs m
  | exit hm hl => exact h.exit hs hm hl
  | freeIx n => exact h.blocks hs ⟨rfl, rfl, rfl, rfl, rfl, rfl, rfl⟩
  | taken rest => exact h.blocks hs ⟨rfl, rfl, rfl, rfl, rfl, rfl, rfl⟩
  | period => exact h.period hs
  | tick => exact h.tick hs (h.settle hs _)
  | reset m =>
    obtain ⟨a, b, z, q, sen, hvalues⟩ := m.values
    exact h.reset hvalues
  | link => exact h.blocks hs ⟨rfl, rfl, rfl, rfl, rfl, rfl, rfl⟩
  | reply => exact h.blocks hs ⟨rfl, rfl, rfl, rfl, rfl, rfl, rfl⟩
  | clear tag _ hn => exact h.blocks (h.clear hs hn) ⟨rfl, rfl, rfl, rfl, rfl, rfl, rfl⟩
  | sweepEnd hn => exact h.blocks (h.sweepEnd hs hn) ⟨rfl, rfl, rfl, rfl, rfl, rfl, rfl⟩

/-- An invariant of the blocks is kept by every step. -/
theorem BlockInvariant.step {P : State → Prop} (h : BlockInvariant P) {s t : State} (hs : P s) (ht : step s = .next t) :
    P t := Acts.keeps (h.act) hs (step_acts ht)

/-- What each small change and a report keep, a run keeps. -/
theorem Runs.keeps {P : State → Prop} (quiet : ∀ {t u}, P t → QuietMove t u → P u)
    (ending : ∀ {t u}, P t → EndingMove t u → P u) (taking : ∀ {t u}, P t → TakingMove t u → P u)
    (report : ∀ {t}, P t → P t.reportLevels) {s t : State} (hs : P s) (h : Runs s t) : P t := by
  rcases h with m | m
  · exact m.keeps quiet ending report hs
  · exact m.keeps quiet taking report hs

/-! ### Quiesce entry, the end of a sweep and TABLE_CLEAR, field by field -/

@[simp] theorem State.trip_table (s : State) : s.trip.table = s.table := by unfold State.trip; split <;> rfl
@[simp] theorem State.trip_time (s : State) : s.trip.time = s.time := by unfold State.trip; split <;> rfl
@[simp] theorem State.trip_bindings (s : State) : s.trip.bindings = s.bindings := by unfold State.trip; split <;> rfl
@[simp] theorem State.trip_senses (s : State) : s.trip.senses = s.senses := by unfold State.trip; split <;> rfl
@[simp] theorem State.trip_attention (s : State) : s.trip.attention = s.attention := by unfold State.trip; split <;> rfl
@[simp] theorem State.trip_quiesce (s : State) : s.trip.quiesce = { s.quiesce with latch := true } := by
  unfold State.trip; split <;> rfl

@[simp] theorem State.refclkPeriod_table (s : State) : s.refclkPeriod.table = s.table := by
  unfold State.refclkPeriod; split <;> rfl
@[simp] theorem State.refclkPeriod_bindings (s : State) : s.refclkPeriod.bindings = s.bindings := by
  unfold State.refclkPeriod; split <;> rfl
@[simp] theorem State.refclkPeriod_attention (s : State) : s.refclkPeriod.attention = s.attention := by
  unfold State.refclkPeriod; split <;> rfl
@[simp] theorem State.refclkPeriod_quiesce (s : State) : s.refclkPeriod.quiesce = s.quiesce := by
  unfold State.refclkPeriod; split <;> rfl

@[simp] theorem State.tickAll_table (s : State) : s.tickAll.table = s.table := rfl
@[simp] theorem State.tickAll_bindings (s : State) : s.tickAll.bindings = s.bindings := rfl
@[simp] theorem State.tickAll_attention (s : State) : s.tickAll.attention = s.attention := rfl
@[simp] theorem State.tickAll_quiesce (s : State) : s.tickAll.quiesce = s.quiesce := rfl

@[simp] theorem State.leave_table (s : State) : s.leave.table = s.table := rfl
@[simp] theorem State.leave_bindings (s : State) : s.leave.bindings = s.bindings := rfl
@[simp] theorem State.leave_time (s : State) : s.leave.time = s.time := rfl

@[simp] theorem ActionTable.swept_slot (t : ActionTable) (i : SlotIx) : t.swept.slot i = (t.slot i).swept := by
  simp [ActionTable.swept, ActionTable.slot]
@[simp] theorem ActionTable.swept_recordAt (t : ActionTable) (i : SlotIx) : t.swept.recordAt i = t.recordAt i := by
  simp [ActionTable.recordAt, Slot.swept]

@[simp] theorem ActionTable.swept_suspended (t : ActionTable) : t.swept.suspended = t.suspended := rfl
@[simp] theorem ActionTable.swept_doneList (t : ActionTable) : t.swept.doneList = t.doneList := rfl

theorem State.clearTable_slot (s : State) (i : SlotIx) : s.clearTable.table.slot i = (s.table.slot i).cleared := by
  simp [State.clearTable, ActionTable.slot]
@[simp] theorem State.clearTable_recordAt (s : State) (i : SlotIx) : s.clearTable.table.recordAt i = none := by
  rw [ActionTable.recordAt, State.clearTable_slot]; rfl
theorem State.clearTable_sweep (s : State) : s.clearTable.table.sweep = some (128 - s.table.freeCount) := rfl

/-! ### What becomes of a record -/

/-- What a change makes of a record that stays in its slot. -/
inductive State.Turns (s : State) (r : ActionRecord) : ActionRecord → Prop
  | replaced {r' : ActionRecord} (h : s.Replaces r r') : s.Turns r r'
  | started {n : Nat} (hp : r.phase = .parked n) (homing : r.what.base.domain = .position → s.time.homing = false) :
      s.Turns r { r with phase := .armed (aheadOf r.what.base s.time.tbT s.time.tbP n) }
  | suspended {due : Word} (hp : r.phase = .armed due) (firing : r.what.work ≠ .mark) :
      s.Turns r { r with phase := .suspended due }
  | ended {q : ActionRecord} {reason : EndReason} (active : r.phase.isDone = false) (origin : q.origin = r.origin)
      (group : q.group = r.group) (range : r.InRange → q.InRange) :
      s.Turns r { q with phase := .done q.phase.due reason }

/-- A record that comes into a FREE slot. -/
inductive State.Comes (s : State) : ActionRecord → Prop
  | armed {i : SlotIx} {r : ActionRecord} (h : s.ArmsFresh i r) : s.Comes r
  | spawned {b : BindingIx} {stampP : Word} {x : SpawnStep} (hx : x ∈ (s.bindings[b]).steps)
      (h : s.spawnFailure s.bindings[b] = none) :
      s.Comes (spawnRecord (.binding b (s.bindings[b]).ordinal) s.time.tbT stampP x)

theorem ActionTable.recordAt_write_eq_some {t : ActionTable} {i j : SlotIx} {q r : ActionRecord}
    (h : (t.write i q).recordAt j = some r) : (j = i ∧ r = q) ∨ (j ≠ i ∧ t.recordAt j = some r) := by
  rw [ActionTable.recordAt_write] at h
  split at h
  · next e => exact .inl ⟨e.symm, (Option.some.inj h).symm⟩
  · next e => exact .inr ⟨fun x => e x.symm, h⟩

/-- After a quiet change every record stood in its slot before it, or came of the one that did. -/
theorem QuietMove.record {s t : State} (m : QuietMove s t) {j : SlotIx} {r' : ActionRecord}
    (h : t.table.recordAt j = some r') :
    s.table.recordAt j = some r' ∨ ∃ r, s.table.recordAt j = some r ∧ s.Turns r r' := by
  have written {i : SlotIx} {r q : ActionRecord} (hr : s.table.recordAt i = some r) (hturns : s.Turns r q)
      (h : (s.table.write i q).recordAt j = some r') :
      s.table.recordAt j = some r' ∨ ∃ r, s.table.recordAt j = some r ∧ s.Turns r r' := by
    rcases ActionTable.recordAt_write_eq_some h with ⟨rfl, rfl⟩ | ⟨-, h⟩
    · exact .inr ⟨r, hr, hturns⟩
    · exact .inl h
  cases m with
  | replace hr hreplaces => exact written hr (.replaced hreplaces) h
  | start hr hp homing => exact written hr (goRecord_of_parked s hp ▸ .started hp homing) h
  | suspend hr hp firing _ => exact written hr (.suspended hp firing) h
  | trip => rw [State.trip_table] at h; exact .inl h
  | _ => exact .inl h

/-- A freeing takes a record from its slot and leaves every other (R2). -/
theorem State.freeSlot_recordAt (s : State) (i j : SlotIx) (r : ActionRecord) :
    (s.freeSlot i r).table.recordAt j = if i = j then none else s.table.recordAt j := by
  obtain ⟨hslot, -, -⟩ := s.freeSlot_table i r
  simp only [ActionTable.recordAt, hslot]
  split <;> rfl

theorem EndingMove.record {s t : State} (m : EndingMove s t) {j : SlotIx} {r' : ActionRecord}
    (h : t.table.recordAt j = some r') :
    s.table.recordAt j = some r' ∨ ∃ r, s.table.recordAt j = some r ∧ s.Turns r r' := by
  cases m with
  | done hr active origin group range =>
    rcases ActionTable.recordAt_write_eq_some h with ⟨rfl, rfl⟩ | ⟨-, h⟩
    · exact .inr ⟨_, hr, .ended active origin group range⟩
    · exact .inl h
  | free hr origin =>
    rw [State.freeSlot_recordAt] at h
    split at h
    · cases h
    · exact .inl h

/-- What holds of a table and of every record written into one of its FREE slots holds after a spawn's records are written. -/
theorem ActionTable.writeSpawn_induction {Q : ActionTable → Prop} {o : Origin} {stampT stampP : Word} {xs : List SpawnStep}
    (hwrite : ∀ {t i x}, Q t → x ∈ xs → t.recordAt i = none → Q (t.write i (spawnRecord o stampT stampP x)))
    {l : List SlotIx} (hl : l.Nodup) {t : ActionTable} (hfree : ∀ i ∈ l, t.recordAt i = none) (ht : Q t) :
    Q (t.writeSpawn o stampT stampP xs l) := by
  induction xs generalizing t l with
  | nil => exact ht
  | cons x xs ih =>
    cases l with
    | nil => exact ht
    | cons i is =>
      obtain ⟨hi, his⟩ := List.nodup_cons.mp hl
      refine ih (fun hq hx => hwrite hq (List.mem_cons_of_mem _ hx)) his (fun j hj => ?_)
        (hwrite ht List.mem_cons_self (hfree i List.mem_cons_self))
      have hne : i ≠ j := fun e => hi (e ▸ hj)
      rw [ActionTable.recordAt_write, if_neg hne]
      exact hfree j (List.mem_cons_of_mem _ hj)

/-- What holds of a table holds after a spawn, where every record written keeps it. -/
theorem State.makeSpawn_induction {Q : ActionTable → Prop} {s : State} {b : BindingIx} {stampT stampP : Word}
    (hwrite : ∀ {t i x}, Q t → x ∈ (s.bindings[b]).steps → t.recordAt i = none →
      Q (t.write i (spawnRecord (.binding b (s.bindings[b]).ordinal) stampT stampP x)))
    (hs : Q s.table) : Q (s.makeSpawn b stampT stampP).table :=
  ActionTable.writeSpawn_induction hwrite s.table.freeSlots_nodup (fun i hi => (s.table.mem_freeSlots i).mp hi) hs

theorem TakingMove.record {s t : State} (m : TakingMove s t) {j : SlotIx} {r' : ActionRecord}
    (h : t.table.recordAt j = some r') : s.table.recordAt j = some r' ∨ s.Comes r' := by
  cases m with
  | arm hfresh =>
    rcases ActionTable.recordAt_write_eq_some h with ⟨rfl, rfl⟩ | ⟨-, h⟩
    · exact .inr (.armed hfresh)
    · exact .inl h
  | @spawn b stampP hfail =>
    refine State.makeSpawn_induction (Q := fun t => ∀ j r, t.recordAt j = some r → s.table.recordAt j = some r ∨ s.Comes r)
      (fun hq hx _ k r hk => ?_) (fun _ _ h => .inl h) j r' h
    rcases ActionTable.recordAt_write_eq_some hk with ⟨rfl, rfl⟩ | ⟨-, hk⟩
    · exact .inr (.spawned hx hfail)
    · exact hq k r hk
  | settings => exact .inl h

/-- No reset leaves a record. -/
theorem AtResetValues.no_record {t : State} {a b z q : Level} {sen : SenseIx → Level} (h : AtResetValues t a b z q sen)
    (i : SlotIx) : t.table.recordAt i = none := (h.slots i).1

/-! ### The collections -/

/-- The collections are exact where one slot changed and stands in each list just where its record belongs there. -/
theorem CollectionsExact.of_change {s t : State} (h : CollectionsExact s) {i : SlotIx}
    (others : ∀ j, j ≠ i → t.table.recordAt j = s.table.recordAt j)
    (hsn : t.table.suspended.Nodup) (hdn : t.table.doneList.Nodup)
    (hs : ∀ j, j ≠ i → (j ∈ t.table.suspended ↔ j ∈ s.table.suspended))
    (hd : ∀ j, j ≠ i → (j ∈ t.table.doneList ↔ j ∈ s.table.doneList))
    (his : i ∈ t.table.suspended ↔ ∃ r, t.table.recordAt i = some r ∧ r.phase.isSuspended = true)
    (hid : i ∈ t.table.doneList ↔ ∃ r, t.table.recordAt i = some r ∧ r.phase.isDone = true) : CollectionsExact t where
  suspended_nodup := hsn
  done_nodup := hdn
  suspended_iff j := by
    by_cases hj : j = i
    · exact hj ▸ his
    · rw [hs j hj, others j hj, h.suspended_iff]
  done_iff j := by
    by_cases hj : j = i
    · exact hj ▸ hid
    · rw [hd j hj, others j hj, h.done_iff]

theorem CollectionsExact.not_mem_suspended {s : State} (h : CollectionsExact s) {i : SlotIx} {r : ActionRecord}
    (hr : s.table.recordAt i = some r) (hp : r.phase.isSuspended = false) : i ∉ s.table.suspended := by
  rw [h.suspended_iff]
  rintro ⟨q, hq, hs⟩
  obtain rfl := Option.some.inj (hr.symm.trans hq)
  rw [hp] at hs
  cases hs

theorem CollectionsExact.not_mem_done {s : State} (h : CollectionsExact s) {i : SlotIx} {r : ActionRecord}
    (hr : s.table.recordAt i = some r) (hp : r.phase.isDone = false) : i ∉ s.table.doneList := by
  rw [h.done_iff]
  rintro ⟨q, hq, hs⟩
  obtain rfl := Option.some.inj (hr.symm.trans hq)
  rw [hp] at hs
  cases hs

theorem CollectionsExact.not_mem_of_free {s : State} (h : CollectionsExact s) {i : SlotIx} (hi : s.table.recordAt i = none) :
    i ∉ s.table.suspended ∧ i ∉ s.table.doneList := by
  simp [h.suspended_iff, h.done_iff, hi]

theorem ActionTable.recordAt_write_ne (t : ActionTable) {i j : SlotIx} (r : ActionRecord) (h : j ≠ i) :
    (t.write i r).recordAt j = t.recordAt j := by
  rw [ActionTable.recordAt_write, if_neg h.symm]

/-- A new record that is neither SUSPENDED nor DONE joins no list (R17). -/
theorem CollectionsExact.write_free {s : State} {t : ActionTable} (h : CollectionsExact (s.setTable t)) {i : SlotIx}
    (hi : t.recordAt i = none) {r : ActionRecord} (hs : r.phase.isSuspended = false) (hd : r.phase.isDone = false) :
    CollectionsExact (s.setTable (t.write i r)) := by
  obtain ⟨hns, hnd⟩ := h.not_mem_of_free hi
  exact h.of_change (i := i) (fun j hj => t.recordAt_write_ne r hj) h.suspended_nodup h.done_nodup (fun _ _ => Iff.rfl)
    (fun _ _ => Iff.rfl) (iff_of_false hns (by simp [hs])) (iff_of_false hnd (by simp [hd]))

theorem CollectionsExact.quiet {s t : State} (h : CollectionsExact s) (m : QuietMove s t) : CollectionsExact t := by
  cases m with
  | @replace i r r' hr hreplaces =>
    have hnd := h.not_mem_done hr hreplaces.active
    have hactive' := hreplaces.active'
    by_cases hsus : r'.phase.isSuspended = true
    · have hin : i ∈ s.table.suspended := (h.suspended_iff i).mpr ⟨r, hr, (hreplaces.suspended hsus).1⟩
      have hlist : (s.applyAmend i r').table.suspended = s.table.suspended := by simp [State.applyAmend, hsus]
      refine h.of_change (i := i) (fun j hj => s.table.recordAt_write_ne r' hj) (hlist ▸ h.suspended_nodup) h.done_nodup
        (fun j _ => by rw [hlist]) (fun _ _ => Iff.rfl) ?_ ?_
      · rw [hlist]
        exact iff_of_true hin ⟨r', s.table.recordAt_write_self i r', hsus⟩
      · refine iff_of_false hnd ?_
        rintro ⟨q, hq, hd⟩
        obtain rfl := Option.some.inj ((s.table.recordAt_write_self i r').symm.trans hq)
        rw [hactive'] at hd
        cases hd
    · have hlist : (s.applyAmend i r').table.suspended = s.table.suspended.erase i := by simp [State.applyAmend, hsus]
      refine h.of_change (i := i) (fun j hj => s.table.recordAt_write_ne r' hj) (hlist ▸ h.suspended_nodup.erase i) h.done_nodup
        (fun j hj => by rw [hlist, List.mem_erase_of_ne hj]) (fun _ _ => Iff.rfl) ?_ ?_
      · rw [hlist]
        refine iff_of_false h.suspended_nodup.not_mem_erase ?_
        rintro ⟨q, hq, hs⟩
        obtain rfl := Option.some.inj ((s.table.recordAt_write_self i r').symm.trans hq)
        exact hsus hs
      · refine iff_of_false hnd ?_
        rintro ⟨q, hq, hd⟩
        obtain rfl := Option.some.inj ((s.table.recordAt_write_self i r').symm.trans hq)
        rw [hactive'] at hd
        cases hd
  | @start i r n hr hp _ =>
    have hns := h.not_mem_suspended hr (by rw [hp]; rfl)
    have hnd := h.not_mem_done hr (by rw [hp]; rfl)
    have hself : (s.putRecord i (goRecord s r)).table.recordAt i = some (goRecord s r) := s.table.recordAt_write_self i _
    rw [goRecord_of_parked s hp] at hself ⊢
    exact h.of_change (i := i) (fun j hj => s.table.recordAt_write_ne _ hj) h.suspended_nodup h.done_nodup (fun _ _ => Iff.rfl)
      (fun _ _ => Iff.rfl) (iff_of_false hns (by simp [hself, Phase.isSuspended])) (iff_of_false hnd (by simp [hself, Phase.isDone]))
  | @suspend i r due hr hp _ _ =>
    have hns := h.not_mem_suspended hr (by rw [hp]; rfl)
    have hnd := h.not_mem_done hr (by rw [hp]; rfl)
    have hself : (s.suspend i r due).table.recordAt i = some { r with phase := .suspended due } :=
      s.table.recordAt_write_self i _
    have hlist : (s.suspend i r due).table.suspended = s.table.suspended ++ [i] := rfl
    refine h.of_change (i := i) (fun j hj => s.table.recordAt_write_ne _ hj) ?_ h.done_nodup (fun j hj => ?_) (fun _ _ => Iff.rfl)
      ?_ (iff_of_false hnd (by simp [hself, Phase.isDone]))
    · rw [hlist, List.nodup_append_comm]
      exact List.nodup_cons.mpr ⟨hns, h.suspended_nodup⟩
    · simp [hlist, hj]
    · simp [hlist, hself, Phase.isSuspended]
  | trip => exact h.of_table_eq s.trip_table
  | _ => exact h.of_table_eq rfl

theorem CollectionsExact.ending {s t : State} (h : CollectionsExact s) (m : EndingMove s t) : CollectionsExact t := by
  cases m with
  | @done i r r' reason hr active _ _ _ =>
    have hnd := h.not_mem_done hr active
    obtain ⟨hrecord, hsus, hdone⟩ := s.makeDone_table i r' reason
    have hself := hrecord i
    rw [if_pos rfl] at hself
    refine h.of_change (i := i) (fun j hj => by rw [hrecord, if_neg hj.symm]) (hsus ▸ h.suspended_nodup.erase i) ?_
      (fun j hj => by rw [hsus, List.mem_erase_of_ne hj]) (fun j hj => by simp [hdone, hj]) ?_ ?_
    · rw [hdone, List.nodup_append_comm]
      exact List.nodup_cons.mpr ⟨hnd, h.done_nodup⟩
    · rw [hsus]
      exact iff_of_false h.suspended_nodup.not_mem_erase (by simp [hself, Phase.isSuspended])
    · simp [hdone, hself, Phase.isDone]
  | @free i r r' hr _ =>
    obtain ⟨-, hsus, hdone⟩ := s.freeSlot_table i r'
    have hself := s.freeSlot_recordAt i i r'
    rw [if_pos rfl] at hself
    refine h.of_change (i := i) (fun j hj => by rw [State.freeSlot_recordAt, if_neg hj.symm]) (hsus ▸ h.suspended_nodup.erase i)
      (hdone ▸ h.done_nodup.erase i) (fun j hj => by rw [hsus, List.mem_erase_of_ne hj])
      (fun j hj => by rw [hdone, List.mem_erase_of_ne hj]) ?_ ?_
    · rw [hsus]
      exact iff_of_false h.suspended_nodup.not_mem_erase (by simp [hself])
    · rw [hdone]
      exact iff_of_false h.done_nodup.not_mem_erase (by simp [hself])

theorem CollectionsExact.taking {s t : State} (h : CollectionsExact s) (m : TakingMove s t) : CollectionsExact t := by
  cases m with
  | arm hfresh =>
    refine CollectionsExact.write_free (s := s) h hfresh.free ?_ ?_ <;>
      rcases hfresh.phase with ⟨n, hp, -⟩ | ⟨due, hp⟩ <;> rw [hp] <;> rfl
  | @spawn b stampP _ =>
    have htable : CollectionsExact (s.setTable (s.makeSpawn b s.time.tbT stampP).table) :=
      State.makeSpawn_induction (Q := fun t => CollectionsExact (s.setTable t)) (fun hq _ hi => hq.write_free hi rfl rfl) h
    exact htable.of_table_eq rfl
  | settings => exact ⟨h.suspended_nodup, h.done_nodup, h.suspended_iff, h.done_iff⟩

theorem CollectionsExact.runs {s t : State} (h : CollectionsExact s) (m : Runs s t) : CollectionsExact t :=
  Runs.keeps CollectionsExact.quiet CollectionsExact.ending CollectionsExact.taking (fun h => h.of_table_eq rfl) h m

/-- The lists are exact where every slot is FREE and both are empty (R22, R23). -/
theorem CollectionsExact.of_empty {t : State} (hslots : ∀ i, t.table.recordAt i = none) (hs : t.table.suspended = [])
    (hd : t.table.doneList = []) : CollectionsExact t := by
  constructor <;> simp [hs, hd, hslots]

theorem collectionsExact_blockInvariant : BlockInvariant CollectionsExact where
  blocks h k := h.of_table_eq k.table
  runs h m := h.runs m
  exit {s} h _ _ := (h.of_table_eq s.leave_table).runs s.exitQuiesce_runs
  period {s} h := h.of_table_eq s.refclkPeriod_table
  tick {s} _ h := h.of_table_eq s.settleTick.tickAll_table
  clear {s} _ _ := .of_empty s.clearTable_recordAt rfl rfl
  sweepEnd h _ := by
    obtain ⟨hsn, hdn, hs, hd⟩ := h
    exact ⟨hsn, hdn, fun i => by simpa using hs i, fun i => by simpa using hd i⟩
  reset h := .of_empty h.no_record h.collections.1 h.collections.2

/-- Settles O52: the lists stay exact in every small change, so in every step. -/
theorem collectionsStayExact : Obligations.CollectionsStayExact :=
  fun _ _ h ht => collectionsExact_blockInvariant.step h ht

end Sys2Proof.Machine
end

section
/-! PROOF. The live counts (R124): the number of records of each binding through every small change. -/

namespace Sys2Proof.Machine

theorem ActionRecord.isFrom_of_origin {q r : ActionRecord} (h : q.origin = r.origin) (b : BindingIx) :
    q.isFrom b = r.isFrom b := by
  unfold ActionRecord.isFrom
  rw [h]

theorem ActionTable.slotsWith_congr {t u : ActionTable} {p : ActionRecord → Bool}
    (h : ∀ i, (u.recordAt i).any p = (t.recordAt i).any p) : u.slotsWith p = t.slotsWith p :=
  List.filter_congr fun i _ => h i

/-- A record replaced by one that satisfies `p` just as it did leaves the slots that do. -/
theorem ActionTable.slotsWith_write {t : ActionTable} {p : ActionRecord → Bool} {i : SlotIx} {r q : ActionRecord}
    (hr : t.recordAt i = some r) (h : p q = p r) : (t.write i q).slotsWith p = t.slotsWith p := by
  refine ActionTable.slotsWith_congr fun j => ?_
  rw [ActionTable.recordAt_write]
  split
  · next e => subst e; rw [hr, Option.any_some, Option.any_some, h]
  · rfl

/-- A record in a FREE slot adds its slot where it satisfies `p`. -/
theorem ActionTable.slotsWith_write_free {t : ActionTable} {p : ActionRecord → Bool} {i : SlotIx} {r : ActionRecord}
    (hi : t.recordAt i = none) :
    ((t.write i r).slotsWith p).length = (t.slotsWith p).length + if p r then 1 else 0 := by
  have hmem (j : SlotIx) : j ∈ (t.write i r).slotsWith p ↔ (j = i ∧ p r = true) ∨ j ∈ t.slotsWith p := by
    rw [ActionTable.mem_slotsWith, ActionTable.mem_slotsWith, ActionTable.recordAt_write]
    by_cases e : i = j
    · subst e; simp [hi]
    · simp [e, Ne.symm e]
  have hnot : i ∉ t.slotsWith p := by simp [ActionTable.mem_slotsWith, hi]
  split
  · next hp =>
    have hperm : ((t.write i r).slotsWith p).Perm (i :: t.slotsWith p) :=
      (List.perm_ext_iff_of_nodup (ActionTable.slotsWith_nodup _ _)
        (List.nodup_cons.mpr ⟨hnot, t.slotsWith_nodup p⟩)).mpr fun j => by simp [hmem, hp]
    rw [hperm.length_eq, List.length_cons]
  · next hp =>
    have hperm : ((t.write i r).slotsWith p).Perm (t.slotsWith p) :=
      (List.perm_ext_iff_of_nodup (ActionTable.slotsWith_nodup _ _) (t.slotsWith_nodup p)).mpr fun j => by simp [hmem, hp]
    rw [hperm.length_eq, Nat.add_zero]

/-- A freed slot is taken from the slots whose record satisfies `p`. -/
theorem State.freeSlot_slotsWith (s : State) {i : SlotIx} {r : ActionRecord} (q : ActionRecord)
    (hr : s.table.recordAt i = some r) (p : ActionRecord → Bool) :
    ((s.freeSlot i q).table.slotsWith p).length = (s.table.slotsWith p).length - if p r then 1 else 0 := by
  have herase : (s.freeSlot i q).table.slotsWith p = (s.table.slotsWith p).erase i := by
    rw [(s.table.slotsWith_nodup p).erase_eq_filter, ActionTable.slotsWith, ActionTable.slotsWith, List.filter_filter]
    refine List.filter_congr fun j _ => ?_
    rw [State.freeSlot_recordAt]
    by_cases e : i = j
    · subst e; simp
    · simp [e, Ne.symm e]
  have hmem : i ∈ s.table.slotsWith p ↔ p r = true := by simp [ActionTable.mem_slotsWith, hr]
  rw [herase, List.length_erase]
  by_cases hp : p r = true <;> simp [hmem, hp]

/-- A spawn adds one slot for each step to the records of its binding, and none to those of another (R124, R134). -/
theorem ActionTable.writeSpawn_isFrom_length (b x : BindingIx) (n : Nat) (stampT stampP : Word) {xs : List SpawnStep}
    {l : List SlotIx} (hl : l.Nodup) (hlen : xs.length ≤ l.length) {t : ActionTable} (hfree : ∀ i ∈ l, t.recordAt i = none) :
    ((t.writeSpawn (.binding b n) stampT stampP xs l).slotsWith (·.isFrom x)).length
      = (t.slotsWith (·.isFrom x)).length + if b = x then xs.length else 0 := by
  induction xs generalizing t l with
  | nil => simp [ActionTable.writeSpawn]
  | cons y ys ih =>
    cases l with
    | nil => simp at hlen
    | cons i is =>
      obtain ⟨hi, his⟩ := List.nodup_cons.mp hl
      rw [ActionTable.writeSpawn, ih his (Nat.le_of_succ_le_succ hlen) fun j hj => ?_,
        ActionTable.slotsWith_write_free (hfree i List.mem_cons_self)]
      · have hfrom : (spawnRecord (.binding b n) stampT stampP y).isFrom x = decide (b = x) := by
          simp [spawnRecord, Template.newRecord, ActionRecord.isFrom, beq_eq_decide]
        rw [hfrom]
        by_cases e : b = x <;> simp [e]
        omega
      · have hne : j ≠ i := fun e => hi (e ▸ hj)
        rw [ActionTable.recordAt_write_ne _ _ hne]
        exact hfree j (List.mem_cons_of_mem _ hj)

theorem LiveCountsExact.of_eq {s t : State} (h : LiveCountsExact s) (htable : t.table = s.table)
    (hlive : ∀ b : BindingIx, (t.bindings[b]).live = (s.bindings[b]).live) : LiveCountsExact t := fun b => by
  rw [hlive b, htable, h b]

theorem LiveCountsExact.of_write {s t : State} (h : LiveCountsExact s) {i : SlotIx} {r q : ActionRecord}
    (hr : s.table.recordAt i = some r) (ho : q.origin = r.origin)
    (hrecord : ∀ j, t.table.recordAt j = (s.table.write i q).recordAt j) (hbindings : t.bindings = s.bindings) :
    LiveCountsExact t := fun b => by
  have hsame : t.table.slotsWith (·.isFrom b) = (s.table.write i q).slotsWith (·.isFrom b) :=
    ActionTable.slotsWith_congr fun j => by rw [hrecord]
  rw [hbindings, hsame, ActionTable.slotsWith_write hr (ActionRecord.isFrom_of_origin ho b), h b]

theorem LiveCountsExact.quiet {s t : State} (h : LiveCountsExact s) (m : QuietMove s t) : LiveCountsExact t := by
  cases m with
  | replace hr hreplaces => exact h.of_write hr hreplaces.origin (fun _ => rfl) rfl
  | start hr hp _ => exact h.of_write hr (by rw [goRecord_of_parked s hp]) (fun _ => rfl) rfl
  | @suspend i r due hr _ _ _ => exact h.of_write (q := { r with phase := .suspended due }) hr rfl (fun _ => rfl) rfl
  | @binding b x live _ =>
    refine h.of_eq rfl fun c => ?_
    by_cases e : b = c
    · subst e; simp [live]
    · have e' : b.val ≠ c.val := fun x => e (Fin.ext x)
      simp [e']
  | trip => exact h.of_eq s.trip_table fun b => by rw [State.trip_bindings]
  | _ => exact h.of_eq rfl fun _ => rfl

theorem LiveCountsExact.ending {s t : State} (h : LiveCountsExact s) (m : EndingMove s t) : LiveCountsExact t := by
  cases m with
  | @done i r q reason hr _ origin _ _ =>
    exact h.of_write (q := { q with phase := .done q.phase.due reason }) hr origin (fun _ => rfl) rfl
  | @free i r q hr origin =>
    intro b
    rw [s.freeSlot_slotsWith q hr, ← h b, State.freeSlot, State.dropLive_live, origin]
    unfold ActionRecord.isFrom
    cases r.origin with
    | host => simp
    | binding x n => by_cases e : x = b <;> simp [e]

theorem LiveCountsExact.taking {s t : State} (h : LiveCountsExact s) (m : TakingMove s t) : LiveCountsExact t := by
  cases m with
  | @arm i r hfresh =>
    intro b
    have hhost : r.isFrom b = false := by unfold ActionRecord.isFrom; rw [hfresh.host]
    rw [State.setTable_table, ActionTable.slotsWith_write_free hfresh.free, hhost]
    exact h b
  | @spawn b stampP hfail =>
    intro x
    have hroom : (s.bindings[b]).steps.length ≤ s.table.freeSlots.length :=
      (Nat.le_add_left _ _).trans (State.reserve_le_of_spawnFailure_none hfail)
    have hcount := ActionTable.writeSpawn_isFrom_length b x (s.bindings[b]).ordinal s.time.tbT stampP
      s.table.freeSlots_nodup hroom fun i hi => (s.table.mem_freeSlots i).mp hi
    have htable : (s.makeSpawn b s.time.tbT stampP).table = s.table.writeSpawn (.binding b (s.bindings[b]).ordinal) s.time.tbT
      stampP (s.bindings[b]).steps s.table.freeSlots := rfl
    rw [htable, hcount, ← h x, State.makeSpawn]
    by_cases e : b = x
    · subst e; simp
    · have e' : b.val ≠ x.val := fun y => e (Fin.ext y)
      simp [e, e']
  | settings => exact h

theorem LiveCountsExact.of_empty {t : State} (hslots : ∀ i, t.table.recordAt i = none)
    (hlive : ∀ b : BindingIx, (t.bindings[b]).live = 0) : LiveCountsExact t := fun b => by
  have hnone : t.table.slotsWith (·.isFrom b) = [] :=
    List.eq_nil_iff_forall_not_mem.mpr fun i => by simp [ActionTable.mem_slotsWith, hslots]
  rw [hlive, hnone]
  rfl

theorem liveCountsExact_runs {s t : State} (h : LiveCountsExact s) (m : Runs s t) : LiveCountsExact t :=
  Runs.keeps LiveCountsExact.quiet LiveCountsExact.ending LiveCountsExact.taking (fun h => h.of_eq rfl fun _ => rfl) h m

theorem liveCountsExact_blockInvariant : BlockInvariant LiveCountsExact where
  blocks h k := h.of_eq k.table fun b => by rw [k.bindings]
  runs h m := liveCountsExact_runs h m
  exit {s} h _ _ := liveCountsExact_runs (h.of_eq s.leave_table fun b => by rw [s.leave_bindings]) s.exitQuiesce_runs
  period {s} h := h.of_eq s.refclkPeriod_table fun b => by rw [s.refclkPeriod_bindings]
  tick {s} _ h := h.of_eq s.settleTick.tickAll_table fun b => by rw [s.settleTick.tickAll_bindings]
  clear {s} _ _ := .of_empty s.clearTable_recordAt fun b => by simp [State.clearTable]
  sweepEnd {s n} h _ b := by
    rw [State.setTable_bindings, h b, State.setTable_table,
      ActionTable.slotsWith_congr fun i => by rw [ActionTable.swept_recordAt]]
  reset h := .of_empty h.no_record fun b => by rw [h.bindings b]

/-- Settles O53: the live counts follow each record that comes and goes. -/
theorem liveCountsStayExact : Obligations.LiveCountsStayExact := fun _ _ h ht => liveCountsExact_blockInvariant.step h ht

end Sys2Proof.Machine
end

section
/-! PROOF. Sweep marks, groups and the homing exclusion (R4, R9, R22, R37): what each small change leaves of a slot's generation and
mark, and what becomes of each record. -/

namespace Sys2Proof.Machine

/-! ### Generations and marks -/

/-- A slot with another content. -/
def Slot.holding (x : Slot) (r : Option ActionRecord) : Slot := { x with content := r }

@[simp] theorem Slot.holding_awaiting (x : Slot) (r : Option ActionRecord) : (x.holding r).awaiting = x.awaiting := rfl

theorem ActionTable.slot_write_holding (t : ActionTable) (i j : SlotIx) (r : ActionRecord) :
    (t.write i r).slot j = (t.slot j).holding ((t.write i r).recordAt j) := by
  rw [ActionTable.slot_write, ActionTable.recordAt_write]
  split <;> rfl

/-- A quiet change moves no generation and no mark (R2, R22). -/
theorem QuietMove.slot {s t : State} (m : QuietMove s t) (i : SlotIx) :
    t.table.slot i = (s.table.slot i).holding (t.table.recordAt i) := by
  cases m with
  | replace => exact s.table.slot_write_holding _ i _
  | start => exact s.table.slot_write_holding _ i _
  | suspend => exact s.table.slot_write_holding _ i _
  | trip => rw [State.trip_table]; rfl
  | _ => rfl

/-- A slot taken keeps its generation and its mark (R2, R22). -/
theorem TakingMove.slot {s t : State} (m : TakingMove s t) (i : SlotIx) :
    t.table.slot i = (s.table.slot i).holding (t.table.recordAt i) := by
  cases m with
  | arm => exact s.table.slot_write_holding _ i _
  | @spawn b stampP _ =>
    refine State.makeSpawn_induction (Q := fun t => t.slot i = (s.table.slot i).holding (t.recordAt i)) (fun hq _ _ => ?_) rfl
    rw [ActionTable.slot_write_holding, hq]
    rfl
  | settings => rfl

/-- The end of a record's work moves no mark, and a generation where the slot becomes FREE (R2, R22). -/
theorem EndingMove.slot {s t : State} (m : EndingMove s t) (i : SlotIx) :
    t.table.slot i = (s.table.slot i).holding (t.table.recordAt i)
    ∨ (s.table.recordAt i ≠ none ∧ t.table.slot i = { s.table.slot i with gen := (s.table.slot i).gen + 1, content := none }) := by
  cases m with
  | done => exact .inl (s.table.slot_write_holding _ i _)
  | @free j r q hr _ =>
    obtain ⟨hslot, -, -⟩ := s.freeSlot_table j q
    by_cases e : j = i
    · subst e
      exact .inr ⟨by rw [hr]; simp, by rw [hslot, if_pos rfl]⟩
    · left
      rw [hslot, if_neg e, State.freeSlot_recordAt, if_neg e]
      rfl

/-! ### The sweep -/

theorem TakingMove.normal {s t : State} (m : TakingMove s t) : s.normal ∨ (t.table.slots = s.table.slots
    ∧ t.table.suspended = s.table.suspended ∧ t.table.doneList = s.table.doneList) := by
  cases m with
  | arm h => exact .inl h.normal
  | spawn h =>
    left
    by_contra hn
    rw [State.spawnFailure_sweeping hn] at h
    cases h
  | settings => exact .inr ⟨rfl, rfl, rfl⟩

/-- While the table is SWEEPING a change that leaves the sweep must leave the slots and the lists (R22). -/
theorem SweepConsistent.of_change {s t : State} (h : SweepConsistent s) (hsweep : t.table.sweep = s.table.sweep)
    (hsame : ¬ s.normal → t.table.slots = s.table.slots ∧ t.table.suspended = s.table.suspended
      ∧ t.table.doneList = s.table.doneList)
    (hmark : ∀ i, (t.table.slot i).awaiting = (s.table.slot i).awaiting) : SweepConsistent t where
  sweeping_empty hn := by
    rw [hsweep] at hn
    obtain ⟨hslots, hsus, hdone⟩ := hsame hn
    obtain ⟨h1, h2, h3⟩ := h.sweeping_empty hn
    exact ⟨fun i => by rw [← h1 i]; simp only [ActionTable.recordAt, ActionTable.slot, hslots], hsus.trans h2, hdone.trans h3⟩
  normal_unmarked hn i := by
    rw [hmark]
    exact h.normal_unmarked (hsweep ▸ hn) i

theorem SweepConsistent.no_record {s : State} (h : SweepConsistent s) (hn : ¬ s.normal) {i : SlotIx} {r : ActionRecord}
    (hr : s.table.recordAt i = some r) : False := by
  rw [(h.sweeping_empty hn).1 i] at hr
  cases hr

theorem SweepConsistent.of_table_eq {s t : State} (h : SweepConsistent s) (ht : t.table = s.table) : SweepConsistent t := by
  obtain ⟨h1, h2⟩ := h
  constructor <;> rw [ht] <;> assumption

theorem SweepConsistent.quiet {s t : State} (h : SweepConsistent s) (m : QuietMove s t) : SweepConsistent t := by
  refine h.of_change m.keepsLink.sweep (fun hn => ?_) fun i => by rw [m.slot i]; rfl
  cases m with
  | replace hr => exact (h.no_record hn hr).elim
  | start hr => exact (h.no_record hn hr).elim
  | suspend hr => exact (h.no_record hn hr).elim
  | trip => rw [State.trip_table]; exact ⟨rfl, rfl, rfl⟩
  | _ => exact ⟨rfl, rfl, rfl⟩

theorem SweepConsistent.ending {s t : State} (h : SweepConsistent s) (m : EndingMove s t) : SweepConsistent t := by
  refine h.of_change m.keepsLink.sweep (fun hn => ?_) fun i => ?_
  · cases m with
    | done hr => exact (h.no_record hn hr).elim
    | free hr => exact (h.no_record hn hr).elim
  · rcases m.slot i with e | ⟨-, e⟩ <;> simp [e]

theorem SweepConsistent.taking {s t : State} (h : SweepConsistent s) (m : TakingMove s t) : SweepConsistent t :=
  h.of_change m.keepsLink.sweep (fun hn => m.normal.resolve_left hn) fun i => by rw [m.slot i]; rfl

theorem SweepConsistent.runs {s t : State} (h : SweepConsistent s) (m : Runs s t) : SweepConsistent t :=
  Runs.keeps SweepConsistent.quiet SweepConsistent.ending SweepConsistent.taking (fun h => h.of_table_eq rfl) h m

theorem sweepConsistent_blockInvariant : BlockInvariant SweepConsistent where
  blocks h k := h.of_table_eq k.table
  runs h m := h.runs m
  exit {s} h _ _ := (h.of_table_eq s.leave_table).runs s.exitQuiesce_runs
  period {s} h := h.of_table_eq s.refclkPeriod_table
  tick {s} _ h := h.of_table_eq s.settleTick.tickAll_table
  clear {s} _ _ := ⟨fun _ => ⟨s.clearTable_recordAt, rfl, rfl⟩, fun hn => by rw [State.clearTable_sweep] at hn; cases hn⟩
  sweepEnd {s _} _ _ := ⟨fun hn => absurd rfl hn, fun _ i => by
    rw [State.setTable_table, ActionTable.swept_slot]
    rfl⟩
  reset h := ⟨fun hn => absurd h.normal hn, fun _ i => (h.slots i).2⟩

/-! ### Groups -/

/-- A record's origin and group are as R4 and R9 say. -/
structure ActionRecord.GroupsWell (r : ActionRecord) : Prop where
  parked : r.phase.isParked = true → r.origin = .host ∧ r.group ≠ none
  spawned : r.origin ≠ .host → r.group = none

theorem groupsConsistent_iff (s : State) :
    GroupsConsistent s ↔ ∀ i r, s.table.recordAt i = some r → r.GroupsWell :=
  ⟨fun h i r hr => ⟨h.parked i r hr, h.spawned i r hr⟩,
    fun h => ⟨fun i r hr => (h i r hr).parked, fun i r hr => (h i r hr).spawned⟩⟩

theorem ActionRecord.GroupsWell.turns {s : State} {r r' : ActionRecord} (h : r.GroupsWell) (m : s.Turns r r') :
    r'.GroupsWell := by
  cases m with
  | replaced m =>
    refine ⟨fun hp => ?_, fun ho => ?_⟩
    · obtain ⟨hhost, hgroup⟩ := h.parked (m.parked ▸ hp)
      exact ⟨m.origin.trans hhost, m.group.elim (fun e => e ▸ hgroup) (·.2)⟩
    · have hnot : r.origin ≠ .host := m.origin ▸ ho
      rcases m.group with e | ⟨hp, -⟩
      · exact e.trans (h.spawned hnot)
      · exact absurd (h.parked hp).1 hnot
  | started => exact ⟨nofun, h.spawned⟩
  | suspended => exact ⟨nofun, h.spawned⟩
  | ended _ origin group _ => exact ⟨nofun, fun ho => group.trans (h.spawned (origin ▸ ho))⟩

theorem ActionRecord.GroupsWell.comes {s : State} {r : ActionRecord} (m : s.Comes r) : r.GroupsWell := by
  cases m with
  | armed m =>
    refine ⟨fun hp => ⟨m.host, ?_⟩, fun ho => absurd m.host ho⟩
    rcases m.phase with ⟨n, -, hgroup⟩ | ⟨due, hdue⟩
    · exact hgroup
    · rw [hdue] at hp; cases hp
  | spawned => exact ⟨nofun, fun _ => rfl⟩

theorem GroupsConsistent.runs {s t : State} (h : GroupsConsistent s) (m : Runs s t) : GroupsConsistent t := by
  rw [groupsConsistent_iff] at h ⊢
  refine Runs.keeps (P := fun s => ∀ i r, s.table.recordAt i = some r → r.GroupsWell) (fun h m i r hr => ?_)
    (fun h m i r hr => ?_) (fun h m i r hr => ?_) (fun h => h) h m
  · rcases m.record hr with hs | ⟨q, hq, hturns⟩
    · exact h i r hs
    · exact (h i q hq).turns hturns
  · rcases m.record hr with hs | ⟨q, hq, hturns⟩
    · exact h i r hs
    · exact (h i q hq).turns hturns
  · rcases m.record hr with hs | hcomes
    · exact h i r hs
    · exact .comes hcomes

theorem GroupsConsistent.of_recordAt_eq {s t : State} (h : GroupsConsistent s)
    (ht : ∀ i, t.table.recordAt i = s.table.recordAt i) : GroupsConsistent t :=
  ⟨fun i r hr => h.parked i r (ht i ▸ hr), fun i r hr => h.spawned i r (ht i ▸ hr)⟩

theorem GroupsConsistent.of_no_record {t : State} (h : ∀ i, t.table.recordAt i = none) : GroupsConsistent t := by
  constructor <;> intro i r hr <;> rw [h i] at hr <;> cases hr

theorem groupsConsistent_blockInvariant : BlockInvariant GroupsConsistent where
  blocks h k := h.of_recordAt_eq fun i => by rw [k.table]
  runs h m := h.runs m
  exit {s} h _ _ := (h.of_recordAt_eq fun i => by rw [s.leave_table]).runs s.exitQuiesce_runs
  period {s} h := h.of_recordAt_eq fun i => by rw [s.refclkPeriod_table]
  tick {s} _ h := h.of_recordAt_eq fun i => by rw [s.settleTick.tickAll_table]
  clear {s} _ _ := .of_no_record s.clearTable_recordAt
  sweepEnd h _ := h.of_recordAt_eq fun i => by simp
  reset h := .of_no_record h.no_record

/-! ### The homing exclusion -/

theorem ActionRecord.waitsIn_iff {r : ActionRecord} {d : Domain} :
    r.waitsIn d = true ↔ (r.phase.isArmed = true ∨ r.phase.isSuspended = true) ∧ r.what.base.domain = d := by
  simp [ActionRecord.waitsIn]

/-- A record that waits is neither PARKED nor DONE. -/
theorem Phase.waits_iff (p : Phase) :
    (p.isArmed = true ∨ p.isSuspended = true) ↔ p.isParked = false ∧ p.isDone = false := by
  cases p <;> simp [Phase.isArmed, Phase.isSuspended, Phase.isParked, Phase.isDone]

/-- No record comes to wait on POSITION while homing is ARMED (R37). -/
theorem State.Turns.not_waitsIn {s : State} {r r' : ActionRecord} (m : s.Turns r r') (hhoming : s.time.homing = true)
    (h : r.waitsIn .position = false) : r'.waitsIn .position = false := by
  rw [Bool.eq_false_iff, ne_eq, ActionRecord.waitsIn_iff, Phase.waits_iff] at h ⊢
  rintro ⟨⟨hparked, hdone⟩, hbase⟩
  cases m with
  | replaced m => exact h ⟨⟨m.parked ▸ hparked, m.active⟩, m.base ▸ hbase⟩
  | started _ homing => rw [homing hbase] at hhoming; cases hhoming
  | suspended hp _ => exact h ⟨by rw [hp]; exact ⟨rfl, rfl⟩, hbase⟩
  | ended => cases hdone

theorem State.Comes.not_waitsIn {s : State} {r : ActionRecord} (m : s.Comes r) (hhoming : s.time.homing = true) :
    r.waitsIn .position = false := by
  rw [Bool.eq_false_iff, ne_eq, ActionRecord.waitsIn_iff]
  rintro ⟨-, hbase⟩
  cases m with
  | armed m => rw [m.homing hbase] at hhoming; cases hhoming
  | @spawned b stampP x hx h =>
    have hstep : (s.bindings[b]).hasStep .position = true :=
      List.any_eq_true.mpr ⟨x, hx, beq_iff_eq.mpr hbase⟩
    unfold State.spawnFailure at h
    split_ifs at h with _ _ hno
    exact hno (by rw [hstep, hhoming]; rfl)

theorem HomingExclusive.quiet {s t : State} (h : HomingExclusive s) (m : QuietMove s t) : HomingExclusive t := by
  have kept (htime : t.time = s.time) : HomingExclusive t := fun hhoming i r hr => by
    rw [htime] at hhoming
    rcases m.record hr with hs | ⟨q, hq, hturns⟩
    · exact h hhoming i r hs
    · exact hturns.not_waitsIn hhoming (h hhoming i q hq)
  cases m with
  | time m =>
    intro hhoming
    rcases m.homing hhoming with hs | hno
    · exact h hs
    · exact (ActionTable.anyWaiting_eq_false _ _).mp hno
  | trip => exact kept s.trip_time
  | _ => exact kept rfl

theorem EndingMove.time {s t : State} (m : EndingMove s t) : t.time = s.time := by
  cases m with
  | done => rfl
  | free => rw [State.freeSlot, State.dropLive_frame]; rfl

theorem TakingMove.time {s t : State} (m : TakingMove s t) : t.time = s.time := by
  cases m with
  | spawn => rw [State.makeSpawn_frame]
  | _ => rfl

theorem HomingExclusive.runs {s t : State} (h : HomingExclusive s) (m : Runs s t) : HomingExclusive t := by
  refine Runs.keeps HomingExclusive.quiet (fun h m hhoming i r hr => ?_) (fun h m hhoming i r hr => ?_) (fun h => h) h m
  · rw [m.time] at hhoming
    rcases m.record hr with hs | ⟨q, hq, hturns⟩
    · exact h hhoming i r hs
    · exact hturns.not_waitsIn hhoming (h hhoming i q hq)
  · rw [m.time] at hhoming
    rcases m.record hr with hs | hcomes
    · exact h hhoming i r hs
    · exact hcomes.not_waitsIn hhoming

theorem HomingExclusive.of_eq {s t : State} (h : HomingExclusive s) (ht : ∀ i, t.table.recordAt i = s.table.recordAt i)
    (hh : t.time.homing = s.time.homing) : HomingExclusive t := fun hhoming i r hr => h (hh ▸ hhoming) i r (ht i ▸ hr)

theorem HomingExclusive.of_no_record {t : State} (h : ∀ i, t.table.recordAt i = none) : HomingExclusive t :=
  fun _ i r hr => by rw [h i] at hr; cases hr

theorem State.refclkPeriod_homing (s : State) : s.refclkPeriod.time.homing = s.time.homing := by
  unfold State.refclkPeriod; split <;> rfl

theorem State.tickAll_homing (s : State) : s.tickAll.time.homing = s.time.homing := rfl

theorem homingExclusive_blockInvariant : BlockInvariant HomingExclusive where
  blocks h k := h.of_eq (fun i => by rw [k.table]) (by rw [k.time])
  runs h m := h.runs m
  exit {s} h _ _ := (h.of_eq (fun i => by rw [s.leave_table]) (by rw [s.leave_time])).runs s.exitQuiesce_runs
  period {s} h := h.of_eq (fun i => by rw [s.refclkPeriod_table]) s.refclkPeriod_homing
  tick {s} _ h := h.of_eq (fun i => by rw [s.settleTick.tickAll_table]) s.settleTick.tickAll_homing
  clear {s} _ _ := .of_no_record s.clearTable_recordAt
  sweepEnd h _ := h.of_eq (fun i => by simp) rfl
  reset h := .of_no_record h.no_record

/-- Settles O54: the sweep by its slots, groups and the homing exclusion by what becomes of each record. -/
theorem groupsAndHomingStayConsistent : Obligations.GroupsAndHomingStayConsistent :=
  ⟨fun _ _ ht => ⟨fun h => sweepConsistent_blockInvariant.step h ht, fun h => groupsConsistent_blockInvariant.step h ht⟩,
    fun _ _ h ht => homingExclusive_blockInvariant.step h ht⟩

end Sys2Proof.Machine
end

section
/-! PROOF. The level causes (R14, R21, R161): a change either leaves what the table reports, or the claim that it belongs to ends in
a report. -/

namespace Sys2Proof.Machine

/-- What the two level causes depend on is the same in both states. -/
structure SameLevels (s t : State) : Prop where
  free : ∀ i, (t.table.recordAt i).isNone = (s.table.recordAt i).isNone
  doneList : t.table.doneList = s.table.doneList
  low : t.table.lowThreshold = s.table.lowThreshold
  pending : ∀ c, c = .donePending ∨ c = .tableLow → (t.attention.cause c).pending = (s.attention.cause c).pending

theorem ActionTable.freeCount_congr {t u : ActionTable} (h : ∀ i, (u.recordAt i).isNone = (t.recordAt i).isNone) :
    u.freeCount = t.freeCount := by
  simp only [ActionTable.freeCount, ActionTable.freeSlots, h]

theorem LevelsReported.of_same {s t : State} (h : LevelsReported s) (k : SameLevels s t) : LevelsReported t where
  done_pending := by rw [k.pending _ (.inl rfl), k.doneList, h.done_pending]
  table_low := by rw [k.pending _ (.inr rfl), k.low, ActionTable.freeCount_congr k.free, h.table_low]

/-- A record replaced in its slot leaves what the table reports (R14, R21). -/
theorem SameLevels.of_write {s : State} {t : ActionTable} {i : SlotIx} {r q : ActionRecord} (hr : s.table.recordAt i = some r)
    (hslots : t.slots = (s.table.write i q).slots) (hdone : t.doneList = s.table.doneList)
    (hlow : t.lowThreshold = s.table.lowThreshold) : SameLevels s (s.setTable t) where
  free j := by
    have hrecord : t.recordAt j = (s.table.write i q).recordAt j := by
      simp only [ActionTable.recordAt, ActionTable.slot, hslots]
    rw [State.setTable_table, hrecord, ActionTable.recordAt_write]
    split
    · next e => rw [← e, hr]; rfl
    · rfl
  doneList := hdone
  low := hlow
  pending _ _ := rfl

theorem QuietMove.sameLevels {s t : State} (m : QuietMove s t) : SameLevels s t := by
  cases m with
  | attention h => exact ⟨fun _ => rfl, rfl, rfl, h.level⟩
  | replace hr _ => exact .of_write hr rfl rfl rfl
  | start hr _ _ => exact .of_write hr rfl rfl rfl
  | suspend hr _ _ _ => exact .of_write hr rfl rfl rfl
  | trip => exact ⟨fun _ => by rw [State.trip_table], by rw [State.trip_table], by rw [State.trip_table],
      fun _ _ => by rw [State.trip_attention]⟩
  | _ => exact ⟨fun _ => rfl, rfl, rfl, fun _ _ => rfl⟩

/-- A report makes the level causes pending exactly while their conditions hold (R161). -/
theorem State.reportLevels_levelsReported (s : State) : LevelsReported s.reportLevels where
  done_pending := by simp [State.reportLevels_cause]
  table_low := by simp [State.reportLevels_cause]

/-- Changes that end in a report, or move no level condition, leave the level causes reported. -/
theorem Moves.levelsReported {L : State → State → Prop} {s t : State} {b : Bool} (m : Moves L s b t)
    (h : LevelsReported s) (hb : b = true) : LevelsReported t := by
  induction m with
  | refl => exact h
  | quiet _ m ih => exact (ih hb).of_same m.sameLevels
  | loud => cases hb
  | report => exact State.reportLevels_levelsReported _

theorem LevelsReported.runs {s t : State} (h : LevelsReported s) (m : Runs s t) : LevelsReported t :=
  m.elim (fun m => m.levelsReported h rfl) fun m => m.levelsReported h rfl

theorem AtResetValues.levelsReported {t : State} {a b z q : Level} {sen : SenseIx → Level} (h : AtResetValues t a b z q sen) :
    LevelsReported t := by
  have hcause (c : Cause) : (t.attention.cause c).pending = false := by rw [Attention.cause, h.attention.1]
  have hfree : t.table.freeCount = 128 := by
    have hslots (i : SlotIx) : (t.table.recordAt i).isNone = true := by rw [h.no_record i]; rfl
    simp [ActionTable.freeCount, ActionTable.freeSlots, hslots]
  constructor
  · simp [hcause, h.collections.2]
  · simp [hcause, hfree, h.settings.2]

theorem levelsReported_blockInvariant : BlockInvariant LevelsReported where
  blocks h k := h.of_same ⟨fun _ => by rw [k.table], by rw [k.table], by rw [k.table], fun _ _ => by rw [k.attention]⟩
  runs h m := h.runs m
  exit {s} h _ _ := (h.of_same (t := s.leave) ⟨fun _ => rfl, rfl, rfl, fun _ _ => rfl⟩).runs s.exitQuiesce_runs
  period {s} h := h.of_same ⟨fun _ => by rw [s.refclkPeriod_table], by rw [s.refclkPeriod_table], by rw [s.refclkPeriod_table],
    fun _ _ => by rw [s.refclkPeriod_attention]⟩
  tick {s} _ h := h.of_same ⟨fun _ => by rw [State.tickAll_table], by rw [State.tickAll_table], by rw [State.tickAll_table],
    fun _ _ => by rw [State.tickAll_attention]⟩
  clear _ _ := State.reportLevels_levelsReported _
  sweepEnd h _ := h.of_same ⟨fun i => by simp, rfl, rfl, fun _ _ => rfl⟩
  reset h := h.levelsReported

/-- Settles O55: what a claim moves of the level conditions, it reports at its end. -/
theorem levelCausesStayReported : Obligations.LevelCausesStayReported :=
  fun _ _ h ht => levelsReported_blockInvariant.step h ht

end Sys2Proof.Machine
end

section
/-! PROOF. The channels through the small changes: every line agrees with its channel's state (R65, R81), and the channels are SAFE
exactly while the part is quiesced, its suspended list empty otherwise (R81, R83, R140, R147). -/

namespace Sys2Proof.Machine

/-! ### The channels after each change -/

theorem EndingMove.channels {s t : State} (m : EndingMove s t) : t.channels = s.channels := by
  cases m with
  | done => rfl
  | free => rw [State.freeSlot, State.dropLive_frame]; rfl

theorem TakingMove.channels {s t : State} (m : TakingMove s t) : t.channels = s.channels := by
  cases m with
  | spawn => rw [State.makeSpawn_frame]
  | _ => rfl

theorem EndingMove.quiesce {s t : State} (m : EndingMove s t) : t.quiesce = s.quiesce := by
  cases m with
  | done => rfl
  | free => rw [State.freeSlot, State.dropLive_frame]; rfl

theorem TakingMove.quiesce {s t : State} (m : TakingMove s t) : t.quiesce = s.quiesce := by
  cases m with
  | spawn => rw [State.makeSpawn_frame]
  | _ => rfl

/-- A property of one channel, kept by every change of a channel, holds of them all after one is replaced. -/
theorem State.setChannel_all {P : Channel → Prop} {s : State} {c : ChannelIx} {x : Channel}
    (h : ∀ d : ChannelIx, P s.channels[d]) (hx : P x) (d : ChannelIx) : P (s.setChannel c x).channels[d] := by
  simp only [State.setChannel, State.setChannels_channels, Fin.getElem_fin, Vector.getElem_set]
  split
  · exact hx
  · exact h d

/-- Quiesce entry takes every channel of a part that was not quiesced into SAFE (R81, R145). -/
theorem State.trip_channel (s : State) (c : ChannelIx) :
    s.trip.channels[c] = if s.quiesced = true then s.channels[c] else (s.channels[c]).enterSafe := by
  unfold State.trip
  split
  · rfl
  · simp [State.enterQuiesce]

theorem State.leave_channel (s : State) (c : ChannelIx) : s.leave.channels[c] = (s.channels[c]).leaveSafe := by
  simp [State.leave]

theorem State.refclkPeriod_channel (s : State) (c : ChannelIx) :
    s.refclkPeriod.channels[c] = s.channels[c] ∨ s.refclkPeriod.channels[c] = (s.channels[c]).period := by
  unfold State.refclkPeriod
  split
  · exact .inl rfl
  · simp

/-! ### Lines -/

theorem Channel.enterSafe_lineAgrees (c : Channel) : c.enterSafe.lineAgrees := by
  cases hs : c.safe <;> simp [Channel.lineAgrees, Channel.enterSafe, Channel.safeLine, hs, Channel.active]

theorem Channel.tick_lineAgrees {c : Channel} (h : c.lineAgrees) : c.tick.lineAgrees := by
  unfold Channel.tick
  split
  · next hs => simpa [Channel.lineAgrees, Channel.active, hs] using h
  · exact h

theorem Channel.period_lineAgrees {c : Channel} (h : c.lineAgrees) : c.period.lineAgrees := by
  unfold Channel.period
  split
  · next p _ _ _ _ hs => cases p <;> simpa [Channel.lineAgrees, Channel.active, hs] using h
  · exact h

theorem LinesAgree.quiet {s t : State} (h : LinesAgree s) (m : QuietMove s t) : LinesAgree t := by
  cases m with
  | channel hx => exact State.setChannel_all h (hx.line (h _))
  | trip =>
    intro c
    rw [State.trip_channel]
    split
    · exact h c
    · exact Channel.enterSafe_lineAgrees _
  | _ => exact h

theorem LinesAgree.of_channels_eq {s t : State} (h : LinesAgree s) (e : t.channels = s.channels) : LinesAgree t :=
  fun c => by rw [e]; exact h c

theorem LinesAgree.runs {s t : State} (h : LinesAgree s) (m : Runs s t) : LinesAgree t :=
  Runs.keeps LinesAgree.quiet (fun h m => h.of_channels_eq m.channels) (fun h m => h.of_channels_eq m.channels) (fun h => h) h m

theorem linesAgree_blockInvariant : BlockInvariant LinesAgree where
  blocks h k := h.of_channels_eq k.channels
  runs h m := h.runs m
  exit {s} _ _ _ := by
    have hleave : LinesAgree s.leave := fun c => by
      rw [State.leave_channel]
      exact Channel.settleFromLine_lineAgrees _
    exact hleave.runs s.exitQuiesce_runs
  period {s} h c := by
    rcases s.refclkPeriod_channel c with e | e <;> rw [e]
    · exact h c
    · exact Channel.period_lineAgrees (h c)
  tick _ h c := by
    rw [State.tickAll_channel]
    exact Channel.tick_lineAgrees (h c)
  clear h _ := h
  sweepEnd h _ := h
  reset h c := by
    rw [h.channels c]
    rfl

/-- Settles O57: a channel changes its state and its line together. -/
theorem linesStayInAgreement : Obligations.LinesStayInAgreement := fun _ _ h ht => linesAgree_blockInvariant.step h ht

/-! ### The suspended list holds firings only -/

/-- No SUSPENDED record becomes a MARK, and no MARK becomes SUSPENDED (R46, R92). -/
theorem State.Turns.firing {s : State} {r r' : ActionRecord} (m : s.Turns r r')
    (h : r.phase.isSuspended = true → r.what.work ≠ .mark) : r'.phase.isSuspended = true → r'.what.work ≠ .mark := by
  cases m with
  | replaced k =>
    intro hs hw
    obtain ⟨hr, hmark⟩ := k.suspended hs
    exact h hr (hmark hw)
  | started => exact fun hs => absurd hs (by simp [Phase.isSuspended])
  | suspended _ firing => exact fun _ => firing
  | ended => exact fun hs => absurd hs (by simp [Phase.isSuspended])

theorem State.Comes.not_suspended {s : State} {r : ActionRecord} (m : s.Comes r) : r.phase.isSuspended = false := by
  cases m with
  | armed h => rcases h.phase with ⟨n, hp, -⟩ | ⟨due, hp⟩ <;> rw [hp] <;> rfl
  | spawned => rfl

theorem SuspendedAreFirings.turned {s : State} (h : SuspendedAreFirings s) {i : SlotIx} {r' : ActionRecord}
    (hr : s.table.recordAt i = some r' ∨ ∃ r, s.table.recordAt i = some r ∧ s.Turns r r') :
    r'.phase.isSuspended = true → r'.what.work ≠ .mark := by
  rcases hr with hr | ⟨r, hr, k⟩
  · exact h i r' hr
  · exact k.firing (h i r hr)

theorem SuspendedAreFirings.quiet {s t : State} (h : SuspendedAreFirings s) (m : QuietMove s t) : SuspendedAreFirings t :=
  fun _ _ hr => h.turned (m.record hr)

theorem SuspendedAreFirings.ending {s t : State} (h : SuspendedAreFirings s) (m : EndingMove s t) : SuspendedAreFirings t :=
  fun _ _ hr => h.turned (m.record hr)

theorem SuspendedAreFirings.taking {s t : State} (h : SuspendedAreFirings s) (m : TakingMove s t) :
    SuspendedAreFirings t := by
  intro i r hr
  rcases m.record hr with hr | k
  · exact h i r hr
  · intro hs
    rw [k.not_suspended] at hs
    cases hs

theorem SuspendedAreFirings.runs {s t : State} (h : SuspendedAreFirings s) (m : Runs s t) : SuspendedAreFirings t :=
  Runs.keeps SuspendedAreFirings.quiet SuspendedAreFirings.ending SuspendedAreFirings.taking (fun h => h) h m

theorem SuspendedAreFirings.of_recordAt {s t : State} (h : SuspendedAreFirings s)
    (e : ∀ i, t.table.recordAt i = s.table.recordAt i) : SuspendedAreFirings t := fun i r hr => h i r (e i ▸ hr)

theorem SuspendedAreFirings.of_no_record {t : State} (h : ∀ i, t.table.recordAt i = none) : SuspendedAreFirings t :=
  fun i r hr => absurd hr (by rw [h i]; exact nofun)

theorem suspendedAreFirings_blockInvariant : BlockInvariant SuspendedAreFirings where
  blocks h k := h.of_recordAt fun i => by rw [k.table]
  runs h m := h.runs m
  exit {s} h _ _ := SuspendedAreFirings.runs (s := s.leave) h s.exitQuiesce_runs
  period {s} h := h.of_recordAt fun i => by rw [s.refclkPeriod_table]
  tick {s} _ h := h.of_recordAt fun i => by rw [State.tickAll_table]
  clear {s} _ _ := .of_no_record s.clearTable_recordAt
  sweepEnd h _ := h.of_recordAt fun i => by simp
  reset h := .of_no_record h.no_record

/-! ### Quiesce -/

/-- The latch, the mirror and the channels as R81 and R140 say, whatever the suspended list holds. -/
structure ChannelsFollowQuiesce (s : State) : Prop where
  clear_high : s.quiesce.latch = false → s.quiesce.mirror = .high
  safe_iff : ∀ c : ChannelIx, (s.channels[c]).state = .safe ↔ s.quiesced = true

theorem State.quiesced_iff (s : State) : s.quiesced = true ↔ s.quiesce.latch = true ∨ s.quiesce.mirror = .low := by
  simp [State.quiesced, QuiesceControl.quiesced]

theorem State.quiesced_congr {s t : State} (h : t.quiesce = s.quiesce) : t.quiesced = s.quiesced := by
  rw [State.quiesced, State.quiesced, h]

theorem QuiesceConsistent.follows {s : State} (h : QuiesceConsistent s) : ChannelsFollowQuiesce s where
  clear_high := h.clear_high
  safe_iff c := by
    refine ⟨fun hc => ?_, fun hq => h.safe hq c⟩
    by_contra hq
    exact (h.released (Bool.eq_false_iff.mpr hq)).1 c hc

theorem ChannelsFollowQuiesce.consistent {s : State} (h : ChannelsFollowQuiesce s)
    (hlist : s.quiesced = false → s.table.suspended = []) : QuiesceConsistent s where
  clear_high := h.clear_high
  safe hq c := (h.safe_iff c).mpr hq
  released hq := ⟨fun c hc => absurd ((h.safe_iff c).mp hc) (by simp [hq]), hlist hq⟩

/-- Where the latch stands as before, each channel that becomes or stops being SAFE would break R81. -/
theorem ChannelsFollowQuiesce.of_safe_iff {s t : State} (h : ChannelsFollowQuiesce s) (hq : t.quiesce = s.quiesce)
    (hsafe : ∀ c : ChannelIx, (t.channels[c]).state = .safe ↔ (s.channels[c]).state = .safe) : ChannelsFollowQuiesce t where
  clear_high := by rw [hq]; exact h.clear_high
  safe_iff c := by rw [hsafe, h.safe_iff, State.quiesced_congr hq]

theorem ChannelsFollowQuiesce.of_channels_eq {s t : State} (h : ChannelsFollowQuiesce s) (hq : t.quiesce = s.quiesce)
    (hc : t.channels = s.channels) : ChannelsFollowQuiesce t := h.of_safe_iff hq fun c => by rw [hc]

theorem State.trip_quiesced (s : State) : s.trip.quiesced = true := by simp [State.quiesced_iff]

theorem ChannelsFollowQuiesce.quiet {s t : State} (h : ChannelsFollowQuiesce s) (m : QuietMove s t) :
    ChannelsFollowQuiesce t := by
  cases m with
  | @channel c x hx =>
    refine ⟨h.clear_high, fun d => ?_⟩
    exact State.setChannel_all (P := fun y => y.state = .safe ↔ s.quiesced = true) h.safe_iff (hx.safe.trans (h.safe_iff c)) d
  | trip =>
    refine ⟨fun hl => by simp at hl, fun c => iff_of_true ?_ s.trip_quiesced⟩
    rw [State.trip_channel]
    split
    · next hq => exact (h.safe_iff c).mpr hq
    · rfl
  | @mirror v hv =>
    refine ⟨fun hl => ?_, fun c => (h.safe_iff c).trans ?_⟩
    · cases v with
      | low => exact absurd (hv rfl) (by simpa using hl)
      | high => rfl
    · simp only [State.quiesced_iff, State.setQuiesce_quiesce]
      refine ⟨fun hq => .inl ?_, fun hq => .inl ?_⟩
      · by_contra hl
        rw [Bool.not_eq_true] at hl
        rcases hq with hq | hq
        · rw [hq] at hl; cases hl
        · rw [h.clear_high hl] at hq; cases hq
      · exact hq.elim id hv
  | _ => exact h.of_channels_eq rfl rfl

theorem ChannelsFollowQuiesce.runs {s t : State} (h : ChannelsFollowQuiesce s) (m : Runs s t) : ChannelsFollowQuiesce t :=
  Runs.keeps ChannelsFollowQuiesce.quiet (fun h m => h.of_channels_eq m.quiesce m.channels)
    (fun h m => h.of_channels_eq m.quiesce m.channels) (fun h => h.of_channels_eq rfl rfl) h m

theorem ChannelsFollowQuiesce.leave {s : State} (hm : s.quiesce.mirror = .high) : ChannelsFollowQuiesce s.leave where
  clear_high _ := hm
  safe_iff c := by
    have hq : ¬ s.leave.quiesced = true := by simp [State.quiesced_iff, State.leave, hm]
    refine iff_of_false (fun hc => ?_) hq
    rw [State.leave_channel, Channel.leaveSafe, Channel.settleFromLine] at hc
    dsimp only at hc
    split at hc <;> cases hc

theorem Channel.tick_safe_iff (c : Channel) : c.tick.state = .safe ↔ c.state = .safe := by
  unfold Channel.tick
  split
  · next h => simp [h]
  · rfl

theorem Channel.period_safe_iff (c : Channel) : c.period.state = .safe ↔ c.state = .safe := by
  unfold Channel.period
  split
  · next h => simp [h]
  · rfl

/-! ### The suspended list -/

/-- Outside the quiesced condition the suspended list is empty (R83, R147). -/
def ReleasedOutsideQuiesce (s : State) : Prop := s.quiesced = false → s.table.suspended = []

theorem ReleasedOutsideQuiesce.of_eq {s t : State} (h : ReleasedOutsideQuiesce s) (hq : t.quiesce = s.quiesce)
    (hlist : s.table.suspended = [] → t.table.suspended = []) : ReleasedOutsideQuiesce t :=
  fun hn => hlist (h (State.quiesced_congr hq ▸ hn))

theorem ReleasedOutsideQuiesce.quiet {s t : State} (hf : ChannelsFollowQuiesce s) (h : ReleasedOutsideQuiesce s)
    (m : QuietMove s t) : ReleasedOutsideQuiesce t := by
  cases m with
  | replace => exact h.of_eq rfl fun he => by simp [State.applyAmend, he]
  | suspend _ _ _ hq => exact fun hn => absurd (hq.symm.trans hn) (by decide)
  | trip => exact fun hn => absurd s.trip_quiesced (by simp [hn])
  | @mirror v hv =>
    intro hn
    refine h (Bool.eq_false_iff.mpr fun hq => ?_)
    refine Bool.eq_false_iff.mp hn ?_
    rw [State.quiesced_iff] at hq ⊢
    rcases hq with hq | hq
    · exact .inl hq
    · refine .inl (Bool.not_eq_false _ ▸ fun hl => ?_)
      rw [hf.clear_high hl] at hq
      cases hq
  | _ => exact h

theorem ReleasedOutsideQuiesce.ending {s t : State} (h : ReleasedOutsideQuiesce s) (m : EndingMove s t) :
    ReleasedOutsideQuiesce t := by
  refine h.of_eq m.quiesce fun he => ?_
  cases m with
  | @done i _ r' reason =>
    obtain ⟨-, hs, -⟩ := s.makeDone_table i r' reason
    rw [hs, he]; rfl
  | @free i _ r' =>
    obtain ⟨-, hs, -⟩ := s.freeSlot_table i r'
    rw [hs, he]; rfl

theorem ReleasedOutsideQuiesce.taking {s t : State} (h : ReleasedOutsideQuiesce s) (m : TakingMove s t) :
    ReleasedOutsideQuiesce t := by
  refine h.of_eq m.quiesce fun he => ?_
  cases m with
  | spawn => rw [State.makeSpawn_frame]; exact he
  | _ => exact he

theorem State.releaseProceed_suspended (s : State) (i : SlotIx) (r : ActionRecord) (due : Word) :
    (s.releaseProceed i r due).table.suspended = s.table.suspended.erase i := by
  have hfinish (s : State) (r : ActionRecord) (reason : EndReason) :
      (s.finish i r reason).table.suspended = s.table.suspended.erase i := by
    unfold State.finish
    split
    · exact (s.makeDone_table i r reason).2.1
    · exact (s.freeSlot_table i r).2.1
  unfold State.releaseProceed
  split
  · exact hfinish s r _
  · split
    · exact hfinish s r _
    · dsimp only
      split
      · exact (State.armAt_table _ i _ _).2.1
      · exact hfinish _ _ _

/-- The release of a SUSPENDED firing takes its slot from the suspended list (R148). -/
theorem State.releaseOne_suspended {s : State} (hc : CollectionsExact s) (hf : SuspendedAreFirings s) {i : SlotIx}
    (hi : i ∈ s.table.suspended) : (s.releaseOne i).table.suspended = s.table.suspended.erase i := by
  obtain ⟨r, hr, hs⟩ := (hc.suspended_iff i).mp hi
  cases hp : r.phase with
  | suspended due =>
    cases hw : r.what.work with
    | mark => exact absurd hw (hf i r hr hs)
    | onChannel c a =>
      simp only [State.releaseOne, hr, hp, hw, State.releaseProceed_suspended]
      obtain ⟨-, -, htable, -⟩ := s.fire_frame c
        { action := a, priority := r.what.priority, handle := s.table.handleOf i }
      rw [htable]
  | _ => rw [hp] at hs; cases hs

/-- The list released from head to tail is empty at the end (R147). -/
theorem State.foldl_releaseOne_suspended {l : List SlotIx} {s : State} (hc : CollectionsExact s) (hf : SuspendedAreFirings s)
    (hl : s.table.suspended = l) : (l.foldl State.releaseOne s).table.suspended = [] := by
  induction l generalizing s with
  | nil => exact hl
  | cons i rest ih =>
    obtain ⟨b, m⟩ := s.releaseOne_moves i
    have hreleased := State.releaseOne_suspended hc hf (i := i) (by rw [hl]; exact List.mem_cons_self)
    refine ih (m.keeps CollectionsExact.quiet CollectionsExact.ending (fun h => h.of_table_eq rfl) hc) ?_ ?_
    · exact m.keeps SuspendedAreFirings.quiet SuspendedAreFirings.ending (fun h => h) hf
    · rw [hreleased, hl, List.erase_cons_head]

theorem State.exitQuiesce_suspended {s : State} (hc : CollectionsExact s) (hf : SuspendedAreFirings s) :
    s.exitQuiesce.table.suspended = [] :=
  State.foldl_releaseOne_suspended (s := s.leave) (hc.of_table_eq s.leave_table) hf rfl

/-! ### The invariant -/

theorem QuiesceConsistent.runs {s t : State} (h : QuiesceConsistent s) (m : Runs s t) : QuiesceConsistent t := by
  obtain ⟨hf, hr⟩ := Runs.keeps (P := fun s => ChannelsFollowQuiesce s ∧ ReleasedOutsideQuiesce s)
    (fun h m => ⟨h.1.quiet m, h.2.quiet h.1 m⟩)
    (fun h m => ⟨h.1.of_channels_eq m.quiesce m.channels, h.2.ending m⟩)
    (fun h m => ⟨h.1.of_channels_eq m.quiesce m.channels, h.2.taking m⟩) (fun h => ⟨h.1.of_channels_eq rfl rfl, h.2⟩)
    ⟨h.follows, fun hq => (h.released hq).2⟩ m
  exact hf.consistent hr

theorem QuiesceConsistent.of_eq {s t : State} (h : QuiesceConsistent s) (hq : t.quiesce = s.quiesce)
    (hsafe : ∀ c : ChannelIx, (t.channels[c]).state = .safe ↔ (s.channels[c]).state = .safe)
    (hlist : s.table.suspended = [] → t.table.suspended = []) : QuiesceConsistent t :=
  (h.follows.of_safe_iff hq hsafe).consistent fun hn => hlist (h.released (State.quiesced_congr hq ▸ hn)).2

theorem quiesceInvariant_blockInvariant : BlockInvariant QuiesceInvariant where
  blocks h k := ⟨collectionsExact_blockInvariant.blocks h.collections k, suspendedAreFirings_blockInvariant.blocks h.firings k,
    h.quiesce.of_eq k.quiesce (fun c => by rw [k.channels]) (by rw [k.table]; exact id)⟩
  runs h m := ⟨h.collections.runs m, h.firings.runs m, h.quiesce.runs m⟩
  exit {s} h hm hl :=
    { collections := collectionsExact_blockInvariant.exit h.collections hm hl
      firings := suspendedAreFirings_blockInvariant.exit h.firings hm hl
      quiesce := ((ChannelsFollowQuiesce.leave hm).runs s.exitQuiesce_runs).consistent fun _ =>
        State.exitQuiesce_suspended h.collections h.firings }
  period {s} h := ⟨collectionsExact_blockInvariant.period h.collections, suspendedAreFirings_blockInvariant.period h.firings,
    h.quiesce.of_eq s.refclkPeriod_quiesce (fun c => by
      rcases s.refclkPeriod_channel c with e | e <;> rw [e]
      exact Channel.period_safe_iff _) (by rw [s.refclkPeriod_table]; exact id)⟩
  tick {s} h k := ⟨collectionsExact_blockInvariant.tick h.collections k.collections,
    suspendedAreFirings_blockInvariant.tick h.firings k.firings,
    k.quiesce.of_eq (State.tickAll_quiesce _) (fun c => by rw [State.tickAll_channel]; exact Channel.tick_safe_iff _)
      (by rw [State.tickAll_table]; exact id)⟩
  clear h hn := ⟨collectionsExact_blockInvariant.clear h.collections hn, suspendedAreFirings_blockInvariant.clear h.firings hn,
    h.quiesce.of_eq rfl (fun _ => Iff.rfl) fun _ => rfl⟩
  sweepEnd h hn := ⟨collectionsExact_blockInvariant.sweepEnd h.collections hn,
    suspendedAreFirings_blockInvariant.sweepEnd h.firings hn, h.quiesce.of_eq rfl (fun _ => Iff.rfl) id⟩
  reset {t} {_} {_} {_} {q} {_} h := by
    refine ⟨collectionsExact_blockInvariant.reset h, suspendedAreFirings_blockInvariant.reset h, ?_⟩
    have hlatch : t.quiesce.latch = true := by rw [h.quiesce]
    have hquiesced : t.quiesced = true := t.quiesced_iff.mpr (.inl hlatch)
    have hfollows : ChannelsFollowQuiesce t := ⟨fun hl => (by rw [hlatch] at hl; cases hl),
      fun c => iff_of_true (by rw [h.channels c]) hquiesced⟩
    exact hfollows.consistent fun _ => h.collections.1

/-- Settles O56: quiesce entry and exit move the channels and the list together, and nothing else does. -/
theorem quiesceStaysConsistent : Obligations.QuiesceStaysConsistent := fun _ _ h ht => quiesceInvariant_blockInvariant.step h ht

end Sys2Proof.Machine
end

section
/-! PROOF. The response queue and the window (R171, R176, R182) through every act. -/

namespace Sys2Proof.Machine

/-- How many entries of a queue are reserved (R176). -/
def reservedCount (l : List Entry) : Nat := (l.filter (fun e => e.reply.isNone)).length

theorem reservedCount_append (l : List Entry) (e : Entry) :
    reservedCount (l ++ [e]) = reservedCount l + if e.reply.isNone = true then 1 else 0 := by
  rw [reservedCount, reservedCount, List.filter_append, List.length_append, List.filter_singleton]
  cases e.reply <;> rfl

theorem Link.headFrame_congr {l k : Link} (h : k.queue = l.queue) : k.headFrame = l.headFrame := by
  simp only [Link.headFrame, h]

theorem Link.headFrame_eq_some {l : Link} {f : List Byte} (h : l.headFrame = some f) :
    ∃ t r rest, l.queue = { tag := t, reply := some r } :: rest ∧ f = responseFrame t r := by
  unfold Link.headFrame at h
  split at h
  · next t r rest hq => exact ⟨t, r, rest, hq, (Option.some.inj h).symm⟩
  · cases h

/-- An entry at the tail leaves the frame of a filled head (R171, R176). -/
theorem Link.headFrame_append {l : Link} {f : List Byte} (h : l.headFrame = some f) (e : Entry) :
    ({ l with queue := l.queue ++ [e] } : Link).headFrame = some f := by
  obtain ⟨t, r, rest, hq, rfl⟩ := Link.headFrame_eq_some h
  simp [Link.headFrame, hq]

theorem LinkConsistent.of_eq {s t : State} (h : LinkConsistent s) (hl : t.link = s.link)
    (hs : t.table.sweep = s.table.sweep) : LinkConsistent t := by
  obtain ⟨hcapacity, hreserved, hwindow⟩ := h
  exact ⟨hl ▸ hcapacity, by rw [hl, hs]; exact hreserved, by rw [hl]; exact hwindow⟩

theorem LinkConsistent.keeps {s t : State} (h : LinkConsistent s) (k : KeepsLink s t) : LinkConsistent t :=
  h.of_eq k.link k.sweep

/-- A window closed that consumes the head consumes a filled entry (R171). -/
theorem Link.closed_reservedCount {l : Link} {w : Window} (hw : w.rdy = true → l.headFrame = some w.frame) (n : Nat) :
    reservedCount (l.closed w n).queue = reservedCount l.queue := by
  simp only [Link.closed]
  split
  · next hc =>
    obtain ⟨hrdy, -⟩ := Bool.and_eq_true_iff.mp hc
    obtain ⟨t, r, rest, hq, -⟩ := Link.headFrame_eq_some (hw hrdy)
    rw [hq]
    rfl
  · rfl

theorem Link.closed_length_le (l : Link) (w : Window) (n : Nat) : (l.closed w n).queue.length ≤ l.queue.length := by
  simp only [Link.closed]
  split
  · rw [List.length_tail]; omega
  · exact Nat.le_refl _

theorem LinkConsistent.linkChange {s : State} (h : LinkConsistent s) {k : Link} (m : s.LinkChange k) :
    LinkConsistent (s.setLink k) := by
  obtain ⟨hcapacity, hreserved, hwindow⟩ := h
  cases m with
  | latches hq hw =>
    exact ⟨by rw [State.setLink_link, hq]; exact hcapacity, by rw [State.setLink_link, hq]; exact hreserved, fun w hin hrdy => by
      rw [State.setLink_link, Link.headFrame_congr hq]
      exact hwindow w (hw ▸ hin) hrdy⟩
  | opened =>
    refine ⟨hcapacity, hreserved, fun w hin hrdy => ?_⟩
    cases hin
    obtain ⟨f, hf⟩ := Option.isSome_iff_exists.mp hrdy
    have hframe : s.openWindow.frame = f := by simp [State.openWindow, hf]
    rw [hframe]
    exact hf
  | @closed w n hin =>
    exact ⟨(Link.closed_length_le ..).trans hcapacity, (Link.closed_reservedCount (hwindow w hin) n).trans hreserved, nofun⟩
  | ended => exact ⟨hcapacity, hreserved, nofun⟩

/-- An entry joins the tail of a queue with room (R174, R176). -/
theorem LinkConsistent.enqueue {s t : State} (h : LinkConsistent s) (hroom : s.link.blocked = false) (hl : t.link = s.link)
    {e : Entry} (he : (if s.table.sweep = none then 0 else 1) + (if e.reply.isNone = true then 1 else 0)
      = if t.table.sweep = none then 0 else 1) : LinkConsistent (t.enqueue e) := by
  obtain ⟨-, hlength⟩ := s.link.blocked_eq_false.mp hroom
  obtain ⟨-, hreserved, hwindow⟩ := h
  refine ⟨?_, ?_, fun w hin hrdy => ?_⟩
  · rw [State.enqueue_link, hl, List.length_append, List.length_singleton]
    exact hlength
  · have hcount := reservedCount_append s.link.queue e
    rw [show reservedCount s.link.queue = _ from hreserved, he] at hcount
    rw [State.enqueue_link, hl]
    exact hcount
  · rw [State.enqueue_link, hl] at hin ⊢
    exact Link.headFrame_append (hwindow w hin hrdy) e

theorem FreshlyReset.linkConsistent {t : State} (h : FreshlyReset t) : LinkConsistent t := by
  obtain ⟨⟨_, _, _, _, _, hvalues⟩, hcapacity, hfilled, hwindow⟩ := h
  refine ⟨hcapacity.trans (by decide), ?_, fun w hin => absurd hin (hwindow w)⟩
  rw [hvalues.normal, if_pos rfl, List.length_eq_zero_iff, List.filter_eq_nil_iff]
  exact fun e he => by simpa using hfilled e he

/-- The end of the sweep fills the reserved entry and leaves the filled ones (R106). -/
theorem LinkConsistent.sweepEnd {s : State} (h : LinkConsistent s) (r : Reply) :
    LinkConsistent ((s.setTable s.table.swept).setLink { s.link with queue := s.link.queue.map (fillReserved r) }) := by
  obtain ⟨hcapacity, -, hwindow⟩ := h
  refine ⟨?_, ?_, fun w hin hrdy => ?_⟩
  · simpa using hcapacity
  · have hfilled (e : Entry) : (fillReserved r e).reply ≠ none := nofun
    simp [hfilled, ActionTable.swept]
  · obtain ⟨t, q, rest, hq, hf⟩ := Link.headFrame_eq_some (hwindow w hin hrdy)
    simp [Link.headFrame, hq, fillReserved, hf]

/-! ### Periods and happenings -/

theorem State.refclkPeriod_keepsLink (s : State) : KeepsLink s s.refclkPeriod := by
  unfold State.refclkPeriod
  split <;> exact ⟨rfl, rfl, rfl, rfl, rfl⟩

theorem State.foldl_takeHappening_keepsLink (l : List Happening) (s : State) : KeepsLink s (l.foldl State.takeHappening s) := by
  induction l generalizing s with
  | nil => exact .refl s
  | cons x rest ih => exact ((s.takeHappening_runs x).keepsLink).trans (ih _)

theorem State.settle_link (s : State) (l : List Happening) : (s.settle l).link = s.link :=
  (State.foldl_takeHappening_keepsLink _ _).link

theorem State.settle_sweep (s : State) (l : List Happening) : (s.settle l).table.sweep = s.table.sweep :=
  (State.foldl_takeHappening_keepsLink _ _).sweep

theorem LinkConsistent.settle {s : State} (h : LinkConsistent s) (l : List Happening) : LinkConsistent (s.settle l) :=
  h.of_eq (s.settle_link l) (s.settle_sweep l)

theorem LinkConsistent.tickAll {s : State} (h : LinkConsistent s) : LinkConsistent s.tickAll := h.of_eq rfl rfl

theorem LinkConsistent.act {s t : State} (h : LinkConsistent s) (m : Act s t) : LinkConsistent t := by
  cases m with
  | runs m => exact h.keeps m.keepsLink
  | exit => exact LinkConsistent.keeps (s := s.leave) (h.of_eq rfl rfl) s.exitQuiesce_runs.keepsLink
  | freeIx => exact h.of_eq rfl rfl
  | taken => exact h.of_eq rfl rfl
  | period => exact h.keeps s.refclkPeriod_keepsLink
  | tick => exact ((h.settle _).tickAll : LinkConsistent s.settleTick.tickAll)
  | reset m => exact m.linkConsistent
  | link m => exact h.linkChange m
  | @reply e hroom he =>
    exact h.enqueue hroom rfl (by simp [he])
  | clear tag hroom hn =>
    have hn : s.table.sweep = none := hn
    exact h.enqueue hroom (t := s.clearTable) rfl (by rw [hn]; rfl)
  | sweepEnd => exact h.sweepEnd _

/-- Settles O58: entries join at the tail, leave filled at the head, and the one reserved is filled in its place. -/
theorem linkStaysConsistent : Obligations.LinkStaysConsistent := fun _ _ h ht => Acts.keeps (LinkConsistent.act) h (step_acts ht)

end Sys2Proof.Machine
end

section
/-! SUPPORT. The ranges of the stored numbers and the place of every ARMED TIME record through the small changes
(R18, R42, R124). -/

namespace Sys2Proof.Machine

/-! ### Records -/

/-- A change of state keeps a record's values in range unless it parks the record anew. -/
theorem ActionRecord.InRange.withPhase {r : ActionRecord} (h : r.InRange) {p : Phase} (hp : p.isParked = false) :
    ({ r with phase := p } : ActionRecord).InRange :=
  ⟨h.what, fun n (hn : p = .parked n) => (by rw [hn] at hp; cases hp), h.group, h.ordinal, h.counts⟩

theorem State.Turns.inRange {s : State} {r r' : ActionRecord} (m : s.Turns r r') (h : r.InRange) : r'.InRange := by
  cases m with
  | replaced k => exact k.range h
  | started => exact h.withPhase rfl
  | suspended => exact h.withPhase rfl
  | ended _ _ _ range => exact (range h).withPhase rfl

theorem State.Comes.inRange {s : State} (h : RangesKept s) {r : ActionRecord} (m : s.Comes r) : r.InRange := by
  cases m with
  | armed h => exact h.range
  | @spawned b stampP x hx =>
    refine ⟨((h.bindings b).step x hx).1, nofun, nofun, fun _ _ e => ?_, Nat.zero_le _, Nat.zero_le _, Nat.zero_le _, Nat.zero_le _⟩
    cases e
    exact (h.bindings b).ordinal

/-- An offset of a TIME record lies at most the horizon ahead (R91, R96, R134). -/
theorem aheadOf_time_le {tbT tbP : Word} {n : Nat} (h : n ≤ Config.horizon .time) :
    (aheadOf .time tbT tbP n - tbT).toNat ≤ 2 ^ 30 := by
  have hn : n ≤ 2 ^ 30 := h
  rw [aheadOf_time_sub hn]
  exact hn

theorem State.Turns.timeDue {s : State} (h : RangesKept s) {i : SlotIx} {r r' : ActionRecord}
    (hr : s.table.recordAt i = some r) (m : s.Turns r r') {due : Word} (hb : r'.what.base = .time)
    (hp : r'.phase = .armed due) : (r.phase = .armed due ∧ r.what.base = .time) ∨ (due - s.time.tbT).toNat ≤ 2 ^ 30 := by
  cases m with
  | replaced k =>
    rw [k.base] at hb
    exact (k.due h due hb hp).imp_left fun e => ⟨e, hb⟩
  | @started n hn _ =>
    cases hp
    have hb : r.what.base = .time := hb
    have hoffset := ((h.records i r hr).offset n hn).2
    rw [hb] at hoffset ⊢
    exact .inr (aheadOf_time_le hoffset)
  | suspended => cases hp
  | ended => cases hp

theorem State.Comes.timeDue {s : State} (h : RangesKept s) {r : ActionRecord} (m : s.Comes r) {due : Word}
    (hb : r.what.base = .time) (hp : r.phase = .armed due) : (due - s.time.tbT).toNat ≤ 2 ^ 30 := by
  cases m with
  | armed h => exact h.due due hb hp
  | @spawned b stampP x hx =>
    cases hp
    have hb : x.what.base = .time := hb
    obtain ⟨-, -, hoffset⟩ := (h.bindings b).step x hx
    rw [hb] at hoffset ⊢
    exact aheadOf_time_le hoffset

/-! ### The other blocks -/

theorem QuietMove.settings {s t : State} (m : QuietMove s t) :
    t.table.reserve = s.table.reserve ∧ t.table.lowThreshold = s.table.lowThreshold := by
  cases m with
  | trip => rw [State.trip_table]; exact ⟨rfl, rfl⟩
  | _ => exact ⟨rfl, rfl⟩

theorem EndingMove.settings {s t : State} (m : EndingMove s t) :
    t.table.reserve = s.table.reserve ∧ t.table.lowThreshold = s.table.lowThreshold := by
  cases m with
  | done => exact ⟨rfl, rfl⟩
  | free => rw [State.freeSlot, State.dropLive_frame]; exact ⟨rfl, rfl⟩

theorem TakingMove.settings_le {s t : State} (h : RangesKept s) (m : TakingMove s t) :
    t.table.reserve ≤ 64 ∧ t.table.lowThreshold ≤ 127 := by
  cases m with
  | arm => exact ⟨h.reserve, h.lowThreshold⟩
  | spawn => rw [State.makeSpawn_frame]; exact ⟨h.reserve, h.lowThreshold⟩
  | settings hr hl => exact ⟨hr, hl⟩

theorem EndingMove.attention {s t : State} (m : EndingMove s t) : t.attention = s.attention := by
  cases m with
  | done => rfl
  | free => rw [State.freeSlot, State.dropLive_frame]; rfl

theorem TakingMove.attention {s t : State} (m : TakingMove s t) : t.attention = s.attention := by
  cases m with
  | spawn => rw [State.makeSpawn_frame]
  | _ => rfl

theorem EndingMove.senses {s t : State} (m : EndingMove s t) : t.senses = s.senses := by
  cases m with
  | done => rfl
  | free => rw [State.freeSlot, State.dropLive_frame]; rfl

theorem TakingMove.senses {s t : State} (m : TakingMove s t) : t.senses = s.senses := by
  cases m with
  | spawn => rw [State.makeSpawn_frame]
  | _ => rfl

theorem QuietMove.timeChange {s t : State} (m : QuietMove s t) : s.TimeChange t.time := by
  cases m with
  | time h => exact h
  | trip => exact State.timeChange_of_same (by simp) (by simp) (by simp) (by simp)
  | _ => exact State.timeChange_of_same rfl rfl rfl id

/-- A channel without a pulse is in range whether or not a tick of this instant is to come (R73). -/
theorem Channel.InRange.of_not_pulsing {c : Channel} {b : Bool} (h : c.InRange b) (hp : c.pulsing = false) (b' : Bool) :
    c.InRange b' := by
  obtain ⟨hstate, h1, h2, h3⟩ := h
  refine ⟨?_, h1, h2, h3⟩
  cases hs : c.state with
  | pulse => simp [Channel.pulsing, hs] at hp
  | _ => rw [hs] at hstate; exact hstate

theorem Channel.InRange.enterSafe {c : Channel} {b : Bool} (h : c.InRange b) : c.enterSafe.InRange b :=
  ⟨trivial, h.conflicts, h.merges, h.preemptions⟩

theorem RangesKept.quiet_channels {s t : State} (h : RangesKept s) (m : QuietMove s t) (c : ChannelIx) :
    (t.channels[c]).InRange t.time.grainWhole := by
  cases m with
  | @channel d x hx => exact State.setChannel_all h.channels (hx.range h (h.channels d)) c
  | @time x hx =>
    rcases hx.grain with ⟨hd, hg⟩ | ⟨-, -, -, hp⟩
    · have hwhole : x.grainWhole = s.time.grainWhole := by rw [Timebases.grainWhole, Timebases.grainWhole, hd, hg]
      rw [State.setTime_time, hwhole]
      exact h.channels c
    · exact (h.channels c).of_not_pulsing (hp c) _
  | trip =>
    rw [State.trip_channel, State.trip_time]
    split
    · exact h.channels c
    · exact (h.channels c).enterSafe
  | _ => exact h.channels c

theorem RangesKept.quiet_bindings {s t : State} (h : RangesKept s) (m : QuietMove s t) (b : BindingIx) :
    (t.bindings[b]).InRange := by
  cases m with
  | @binding d x _ hx =>
    simp only [State.setBinding, State.setBindings_bindings, Fin.getElem_fin, Vector.getElem_set]
    split
    · exact hx (h.bindings d)
    · exact h.bindings b
  | trip => rw [State.trip_bindings]; exact h.bindings b
  | _ => exact h.bindings b

theorem RangesKept.quiet_senses {s t : State} (h : RangesKept s) (m : QuietMove s t) (n : SenseIx) :
    (t.senses[n]).InRange := by
  cases m with
  | @sense d x hx =>
    simp only [State.setSense, State.setSenses_senses, Fin.getElem_fin, Vector.getElem_set]
    split
    · exact hx (h.senses d)
    · exact h.senses n
  | trip => rw [State.trip_senses]; exact h.senses n
  | _ => exact h.senses n

theorem RangesKept.quiet_causes {s t : State} (h : RangesKept s) (m : QuietMove s t) (k : Fin 11) :
    (t.attention.causes[k]).count ≤ 255 := by
  cases m with
  | attention ha => exact ha.count h.causes k
  | trip => rw [State.trip_attention]; exact h.causes k
  | _ => exact h.causes k

theorem RangesKept.quiet {s t : State} (h : RangesKept s) (m : QuietMove s t) : RangesKept t where
  records i r hr := by
    rcases m.record hr with hr | ⟨q, hq, k⟩
    · exact h.records i r hr
    · exact k.inRange (h.records i q hq)
  reserve := m.settings.1 ▸ h.reserve
  lowThreshold := m.settings.2 ▸ h.lowThreshold
  swept := m.keepsLink.sweep ▸ h.swept
  divisor := by
    rcases m.timeChange.grain with ⟨hd, -⟩ | ⟨h1, h2, -⟩
    · exact hd ▸ h.divisor
    · exact ⟨h1, h2⟩
  grain := by
    rcases m.timeChange.grain with ⟨hd, hg⟩ | ⟨-, -, hg, -⟩
    · rw [hd, hg]; exact h.grain
    · rw [hg]; exact Nat.zero_le _
  channels := h.quiet_channels m
  senses := h.quiet_senses m
  bindings := h.quiet_bindings m
  causes := h.quiet_causes m

theorem RangesKept.ending {s t : State} (h : RangesKept s) (m : EndingMove s t) : RangesKept t where
  records i r hr := by
    rcases m.record hr with hr | ⟨q, hq, k⟩
    · exact h.records i r hr
    · exact k.inRange (h.records i q hq)
  reserve := m.settings.1 ▸ h.reserve
  lowThreshold := m.settings.2 ▸ h.lowThreshold
  swept := m.keepsLink.sweep ▸ h.swept
  divisor := m.time ▸ h.divisor
  grain := m.time ▸ h.grain
  channels c := by rw [m.time, m.channels]; exact h.channels c
  senses n := by rw [m.senses]; exact h.senses n
  bindings b := by
    cases m with
    | done => exact h.bindings b
    | @free i _ r' =>
      obtain ⟨h1, h2, h3, h4, h5, h6⟩ := h.bindings b
      rw [(State.freeSlot_freed s i r').bindings b]
      refine ⟨h1, h2, h3, h4, ?_, h6⟩
      dsimp only
      split
      · exact h5
      · split <;> omega
  causes k := by rw [m.attention]; exact h.causes k

/-- A binding's live count is at most the number of slots (R1, R124). -/
theorem LiveCountsExact.live_le {s : State} (h : LiveCountsExact s) (b : BindingIx) : (s.bindings[b]).live ≤ 128 := by
  rw [h b, ActionTable.slotsWith]
  exact (List.length_filter_le _ _).trans (by rw [List.length_finRange])

theorem TakingMove.bindings {s t : State} (m : TakingMove s t) (b : BindingIx) :
    ∃ n live, n ≤ (s.bindings[b]).ordinal ⊔ 65535 ∧ t.bindings[b] = { s.bindings[b] with ordinal := n, live := live } := by
  cases m with
  | @spawn c stampP _ =>
    simp only [State.makeSpawn, State.setBinding, State.setBindings_bindings, State.setTable_bindings, Fin.getElem_fin,
      Vector.getElem_set]
    split
    · next e =>
      have e : c = b := Fin.ext e
      subst e
      exact ⟨_, _, le_sup_of_le_right (by omega), rfl⟩
    · exact ⟨_, _, le_sup_left, rfl⟩
  | _ => exact ⟨_, _, le_sup_left, rfl⟩

/-- A slot taken keeps the ranges; the live counts stay in theirs because they are exact (R124). -/
theorem RangesKept.taking {s t : State} (h : RangesKept s) (m : TakingMove s t) (hlive : LiveCountsExact t) : RangesKept t where
  records i r hr := by
    rcases m.record hr with hr | k
    · exact h.records i r hr
    · exact k.inRange h
  reserve := (m.settings_le h).1
  lowThreshold := (m.settings_le h).2
  swept := m.keepsLink.sweep ▸ h.swept
  divisor := m.time ▸ h.divisor
  grain := m.time ▸ h.grain
  channels c := by rw [m.time, m.channels]; exact h.channels c
  senses n := by rw [m.senses]; exact h.senses n
  bindings b := by
    obtain ⟨n, live, hn, he⟩ := m.bindings b
    obtain ⟨h1, h2, h3, h4, -, h6⟩ := h.bindings b
    have hlive := hlive.live_le b
    rw [he] at hlive ⊢
    exact ⟨h1, h2, h3, hn.trans (sup_le h4 le_rfl), hlive, h6⟩
  causes k := by rw [m.attention]; exact h.causes k

theorem CauseState.reported_count_le {x : CauseState} (h : x.count ≤ 255) (b : Bool) : (x.reported b).count ≤ 255 := by
  unfold CauseState.reported
  split
  · exact satAdd_le _ _ _
  · split <;> exact h

theorem RangesKept.report {s : State} (h : RangesKept s) : RangesKept s.reportLevels where
  records := h.records
  reserve := h.reserve
  lowThreshold := h.lowThreshold
  swept := h.swept
  divisor := h.divisor
  grain := h.grain
  channels := h.channels
  senses := h.senses
  bindings := h.bindings
  causes k := by
    obtain ⟨c, rfl⟩ := Cause.ix_surjective k
    change (s.reportLevels.attention.cause c).count ≤ 255
    rw [State.reportLevels_cause]
    cases c with
    | donePending => exact CauseState.reported_count_le (h.causes _) _
    | tableLow => exact CauseState.reported_count_le (h.causes _) _
    | _ => exact h.causes _

/-! ### ARMED TIME records -/

/-- TB-T moves only while no record waits in its domain, and then the table stays (R29). -/
theorem QuietMove.tbT {s t : State} (m : QuietMove s t) :
    t.time.tbT = s.time.tbT ∨ (t.table = s.table ∧ s.table.anyWaiting .time = false) := by
  cases m with
  | time h => exact h.tbT.imp_right fun e => ⟨rfl, e⟩
  | trip => exact .inl (by rw [State.trip_time])
  | _ => exact .inl rfl

theorem TimeDueAhead.of_turned {s t : State} (hs : RangesKept s) (h : TimeDueAhead s) (ht : t.time.tbT = s.time.tbT)
    (m : ∀ i r', t.table.recordAt i = some r' →
      s.table.recordAt i = some r' ∨ ∃ r, s.table.recordAt i = some r ∧ s.Turns r r') : TimeDueAhead t := by
  intro i r due hr hb hp
  rw [ht]
  rcases m i r hr with hr | ⟨q, hq, k⟩
  · exact h i r due hr hb hp
  · rcases k.timeDue hs hq hb hp with ⟨hqp, hqb⟩ | hdue
    · exact h i q due hq hqb hqp
    · exact hdue

theorem TimeDueAhead.quiet {s t : State} (hs : RangesKept s) (h : TimeDueAhead s) (m : QuietMove s t) : TimeDueAhead t := by
  rcases m.tbT with ht | ⟨htable, hnone⟩
  · exact h.of_turned hs ht fun i r hr => m.record hr
  · intro i r due hr hb hp
    rw [htable] at hr
    have hwaits := (s.table.anyWaiting_eq_false .time).mp hnone i r hr
    rw [ActionRecord.waitsIn, hp, hb] at hwaits
    cases hwaits

theorem TimeDueAhead.ending {s t : State} (hs : RangesKept s) (h : TimeDueAhead s) (m : EndingMove s t) : TimeDueAhead t :=
  h.of_turned hs (by rw [m.time]) fun _ _ hr => m.record hr

theorem TimeDueAhead.taking {s t : State} (hs : RangesKept s) (h : TimeDueAhead s) (m : TakingMove s t) :
    TimeDueAhead t := by
  intro i r due hr hb hp
  rw [m.time]
  rcases m.record hr with hr | k
  · exact h i r due hr hb hp
  · exact k.timeDue hs hb hp

theorem TimeDueInvariant.runs {s t : State} (h : TimeDueInvariant s) (m : Runs s t) : TimeDueInvariant t :=
  Runs.keeps (fun h m => ⟨h.ranges.quiet m, h.ahead.quiet h.ranges m, h.live.quiet m⟩)
    (fun h m => ⟨h.ranges.ending m, h.ahead.ending h.ranges m, h.live.ending m⟩)
    (fun h m => ⟨h.ranges.taking m (h.live.taking m), h.ahead.taking h.ranges m, h.live.taking m⟩)
    (fun h => ⟨h.ranges.report, h.ahead, h.live.of_eq rfl (fun _ => rfl)⟩) h m

end Sys2Proof.Machine
end

section
/-! PROOF. Happenings still to be taken (R42, R43, R44, R78, R79): what a claim, a pulse end or a phase change takes is not due after
it, and nothing else comes to be due. -/

namespace Sys2Proof.Machine

/-! ### Channels -/

/-- From `c` to `x` no pulse's end tick was reached and no burst phase ran out. -/
structure Channel.NoneEnds (c x : Channel) : Prop where
  pulse : x.endReached = true → c.endReached = true
  burst : x.phaseOver = true → c.phaseOver = true

theorem Channel.NoneEnds.refl (c : Channel) : c.NoneEnds c := ⟨id, id⟩

theorem Channel.NoneEnds.of_false {c x : Channel} (h : x.endReached = false) (k : x.phaseOver = false) : c.NoneEnds x :=
  ⟨fun e => absurd e (by simp [h]), fun e => absurd e (by simp [k])⟩

theorem Channel.toRest_noneEnds (c x : Channel) : c.NoneEnds x.toRest := .of_false rfl rfl

/-- An action applied in range leaves a pulse with a grain to come and a burst with a period left (R73, R74). -/
theorem Channel.apply_noneEnds {f : Firing} {b : Bool} (c x : Channel) (h : f.action.inRange b) : c.NoneEnds (x.apply f) := by
  unfold Channel.apply
  split
  · exact .of_false rfl rfl
  · exact c.toRest_noneEnds x
  · split
    · exact c.toRest_noneEnds x
    · exact .of_false rfl rfl
  · next w hw =>
    rw [hw] at h
    obtain ⟨w, rfl⟩ := Nat.exists_eq_succ_of_ne_zero (Nat.one_le_iff_ne_zero.mp h.1)
    exact .of_false rfl rfl
  · next y hy =>
    rw [hy] at h
    obtain ⟨n, hn⟩ := Nat.exists_eq_succ_of_ne_zero (Nat.one_le_iff_ne_zero.mp h.1)
    exact .of_false (by simp [Channel.endReached]) (by simp [Channel.phaseOver, hn])

theorem Channel.take_noneEnds {f : Firing} {b : Bool} (c : Channel) (h : f.action.inRange b) : c.NoneEnds (c.take f).1 := by
  by_cases hs : c.state = .safe
  · rw [Channel.take_of_safe hs]
    exact .refl c
  rcases c.take_cases f hs with ⟨-, e⟩ | ⟨q, k, g, w, -, hw, -, e⟩ | ⟨q, -, -, e⟩ | ⟨q, -, -, e⟩ <;> rw [e]
  · exact c.apply_noneEnds c h
  · rw [hw] at h
    obtain ⟨n, hn⟩ := Nat.exists_eq_succ_of_ne_zero (n := max g w) (by have := h.1; omega)
    exact .of_false (by simp [Channel.endReached, hn]) rfl
  · exact c.apply_noneEnds _ h
  · exact ⟨id, id⟩

theorem Channel.endPulse_not_reached (c : Channel) : c.endPulse.endReached = false := by
  unfold Channel.endPulse
  split
  · rfl
  · next h => exact Bool.eq_false_iff.mpr h

theorem Channel.endPulse_noneEnds (c : Channel) : c.NoneEnds c.endPulse := by
  unfold Channel.endPulse
  split
  · exact c.toRest_noneEnds c
  · exact .refl c

/-- A phase changed has periods left (R64, R79). -/
theorem Channel.phaseChange_not_over {c : Channel} {b : Bool} (h : c.InRange b) : c.phaseChange.phaseOver = false := by
  have hstate := h.state
  unfold Channel.phaseChange
  split
  · next hb =>
    simp only [hb, ChanState.inRange] at hstate
    obtain ⟨n, hn⟩ := Nat.exists_eq_succ_of_ne_zero (Nat.one_le_iff_ne_zero.mp hstate.2.2.2.2.2.1)
    simp [Channel.phaseOver, hn]
  · next hb =>
    simp only [hb, ChanState.inRange] at hstate
    obtain ⟨n, hn⟩ := Nat.exists_eq_succ_of_ne_zero (Nat.one_le_iff_ne_zero.mp hstate.2.2.2.1)
    split
    · simp [Channel.phaseOver, hn]
    · rfl
  · next h1 h2 =>
    unfold Channel.phaseOver
    split
    · next q k p n hi lo hb =>
      cases p with
      | high => exact absurd hb (h1 q k n hi lo)
      | low => exact absurd hb (h2 q k n hi lo)
    · rfl

theorem Channel.phaseChange_noneEnds {c : Channel} {b : Bool} (h : c.InRange b) : c.NoneEnds c.phaseChange := by
  refine ⟨fun e => ?_, fun e => absurd e (by simp [Channel.phaseChange_not_over h])⟩
  unfold Channel.phaseChange at e
  split at e
  · simp [Channel.endReached] at e
  · split at e <;> simp [Channel.endReached] at e
  · exact e

/-! ### Nothing comes to be due -/

/-- From `s` to `t` nothing came to be due: the timebases stand, a record that is due stood so before, and no action in flight
came to its end. -/
structure State.NothingNew (s t : State) : Prop where
  time : t.time = s.time
  record : ∀ i r, t.table.recordAt i = some r → isDue t.time r = true → s.table.recordAt i = some r
  channel : ∀ c : ChannelIx, (s.channels[c]).NoneEnds t.channels[c]

theorem State.NothingNew.refl (s : State) : s.NothingNew s := ⟨rfl, fun _ _ h _ => h, fun _ => .refl _⟩

theorem State.NothingNew.trans {s t u : State} (h : s.NothingNew t) (k : t.NothingNew u) : s.NothingNew u where
  time := k.time.trans h.time
  record i r hr hdue := h.record i r (k.record i r hr hdue) (k.time ▸ hdue)
  channel c := ⟨fun e => (h.channel c).pulse ((k.channel c).pulse e), fun e => (h.channel c).burst ((k.channel c).burst e)⟩

theorem Channel.endReached_iff (c : Channel) : c.endReached = true ↔ ∃ q h, c.state = .pulse q h 0 := by
  unfold Channel.endReached
  split
  · next q h e => exact iff_of_true rfl ⟨q, h, e⟩
  · next e => exact iff_of_false (by simp) (fun ⟨q, h, k⟩ => e q h k)

theorem Channel.phaseOver_iff (c : Channel) : c.phaseOver = true ↔ ∃ q h p n hi lo, c.state = .burst q h p 0 n hi lo := by
  unfold Channel.phaseOver
  split
  · next q h p n hi lo e => exact iff_of_true rfl ⟨q, h, p, n, hi, lo, e⟩
  · next e => exact iff_of_false (by simp) (fun ⟨q, h, p, n, hi, lo, k⟩ => e q h p n hi lo k)

/-- A record that is due in the later state was due in the earlier one. -/
theorem State.NothingNew.due {s t : State} (h : s.NothingNew t) {i : SlotIx} {r : ActionRecord} {due : Word}
    (hr : t.table.recordAt i = some r) (hp : r.phase = .armed due) (hd : t.time.reached r.what.base due) :
    s.table.recordAt i = some r ∧ s.time.reached r.what.base due :=
  ⟨h.record i r hr ((isDue_iff _ _).mpr ⟨due, hp, hd⟩), h.time ▸ hd⟩

theorem State.NothingNew.dueOn {s t : State} (h : s.NothingNew t) {d : Domain} {c : ChannelIx} {i : SlotIx}
    (k : t.dueOn d c i) : s.dueOn d c i := by
  obtain ⟨r, due, a, hr, hp, hw, hd, hdue⟩ := k
  obtain ⟨hr', hdue'⟩ := h.due hr hp hdue
  exact ⟨r, due, a, hr', hp, hw, hd, hdue'⟩

/-- A happening that is still to be taken in the later state was so in the earlier one. -/
theorem State.NothingNew.comesDue {s t : State} (h : s.NothingNew t) {x : Happening} (k : t.comesDue x.command) :
    s.comesDue x.command := by
  cases x with
  | claim y =>
    cases y with
    | channel d c =>
      obtain ⟨i, hi⟩ := k
      exact ⟨i, h.dueOn hi⟩
    | mark i =>
      obtain ⟨r, due, hr, hp, hw, hdue⟩ := k
      obtain ⟨hr', hdue'⟩ := h.due hr hp hdue
      exact ⟨r, due, hr', hp, hw, hdue'⟩
  | pulseEnd c => exact (Channel.endReached_iff _).mp ((h.channel c).pulse ((Channel.endReached_iff _).mpr k))
  | phaseChange c => exact (Channel.phaseOver_iff _).mp ((h.channel c).burst ((Channel.phaseOver_iff _).mpr k))

theorem State.NothingNew.claimComesDue {s t : State} (h : s.NothingNew t) {d : Domain} {x : Happening}
    (k : t.claimComesDue d x) : s.claimComesDue d x := by
  refine ⟨h.comesDue k.1, ?_⟩
  cases x with
  | claim y =>
    cases y with
    | channel e c => exact k.2
    | mark i =>
      obtain ⟨⟨r, due, hr, hp, -, hdue⟩, q, hq, hd⟩ := k
      obtain rfl := Option.some.inj (hr.symm.trans hq)
      exact ⟨r, (h.due hr hp hdue).1, hd⟩
  | pulseEnd => exact k.2
  | phaseChange => exact k.2

/-! ### A record that falls due -/

/-- Another due value of the series is not reached at the same instant (R56, R57). -/
theorem Timebases.not_reached_advance {t : Timebases} {b : Base} {due : Word} {n : Nat} (h : t.reached b due) (h1 : 1 ≤ n)
    (h2 : n ≤ Config.horizon b.domain) : ¬ t.reached b (advance b due n) := by
  have hn : n < 2 ^ 32 := h2.trans_lt (horizon_lt _)
  cases b with
  | time =>
    rw [Timebases.reached] at h ⊢
    rw [← h]
    simp only [advance]
    bv_omega
  | position d =>
    obtain ⟨rfl, hd⟩ := h
    rintro ⟨e, -⟩
    cases d <;> simp only [advance] at e <;> bv_omega

theorem State.finish_not_due (s : State) (i : SlotIx) (r : ActionRecord) (reason : EndReason) {q : ActionRecord}
    (h : (s.finish i r reason).table.recordAt i = some q) : q.phase.isArmed = false := by
  unfold State.finish at h
  split at h
  · rw [(s.makeDone_table i r reason).1 i, if_pos rfl] at h
    cases h
    rfl
  · rw [State.freeSlot_recordAt, if_pos rfl] at h
    cases h

/-- After a record's falling due its slot holds no record that is due (R44, R55). -/
theorem State.proceed_not_due {s : State} {i : SlotIx} {r q : ActionRecord} {due : Word} (hrange : r.what.InRange)
    (hdue : s.time.reached r.what.base due) (h : (s.proceed i r due).table.recordAt i = some q) :
    isDue s.time q = false := by
  have hfinished (h : (s.finish i r .completed).table.recordAt i = some q) : isDue s.time q = false := by
    have harmed := s.finish_not_due i r _ h
    refine Bool.eq_false_iff.mpr fun e => ?_
    obtain ⟨d, hp, -⟩ := (isDue_iff _ _).mp e
    rw [hp] at harmed
    cases harmed
  unfold State.proceed at h
  split at h
  · exact hfinished h
  · next x hx =>
    split at h
    · exact hfinished h
    · rw [(s.armAt_table i _ _).1 i, if_pos rfl] at h
      cases h
      obtain ⟨h1, h2, -⟩ := hrange.rep x hx
      refine Bool.eq_false_iff.mpr fun e => ?_
      obtain ⟨d, hp, hd⟩ := (isDue_iff _ _).mp e
      cases hp
      exact Timebases.not_reached_advance hdue h1 h2 hd

theorem State.setChannel_noneEnds (s : State) {c : ChannelIx} {x : Channel} (h : (s.channels[c]).NoneEnds x) (d : ChannelIx) :
    (s.channels[d]).NoneEnds (s.channels.set c x c.isLt)[d] := by
  rw [Fin.getElem_fin, Fin.getElem_fin, Vector.getElem_set]
  split
  · next e =>
    have e : c = d := Fin.ext e
    subst e
    exact h
  · exact .refl _

theorem State.proceed_channels (s : State) (i : SlotIx) (r : ActionRecord) (due : Word) :
    (s.proceed i r due).channels = s.channels := by
  have hfinish : (s.finish i r .completed).channels = s.channels := by
    unfold State.finish
    split
    · rfl
    · rw [State.freeSlot, State.dropLive_frame]; rfl
  unfold State.proceed
  split
  · exact hfinish
  · split
    · exact hfinish
    · rfl

/-! ### The branches of a falling due, an equation for each -/

section
variable {s : State} {i : SlotIx} {r : ActionRecord} {due : Word}

theorem State.fallDueAt_of_armed (hr : s.table.recordAt i = some r) (hp : r.phase = .armed due) :
    s.fallDueAt i = s.fallDue i r due := by simp [State.fallDueAt, hr, hp]

theorem State.fallDue_of_mark (hw : r.what.work = .mark) :
    s.fallDue i r due = (s.mark (s.table.handleOf i)).proceed i (r.record .fired) due := by simp [State.fallDue, hw]

variable {c : ChannelIx} {a : ChanAction}

theorem State.fallDue_of_drop (hw : r.what.work = .onChannel c a) (hq : s.quiesced = true) (hm : r.what.miss = .drop) :
    s.fallDue i r due = (s.raise .missed).proceed i (r.record .missed) due := by simp [State.fallDue, hw, hq, hm]

theorem State.fallDue_of_hold (hw : r.what.work = .onChannel c a) (hq : s.quiesced = true) (hm : r.what.miss = .hold) :
    s.fallDue i r due = s.suspend i r due := by simp [State.fallDue, hw, hq, hm]

/-- The firing that a channel record sends at its falling due (R48). -/
def State.firingOf (s : State) (i : SlotIx) (r : ActionRecord) (a : ChanAction) : Firing :=
  { action := a, priority := r.what.priority, handle := s.table.handleOf i }

theorem State.fallDue_of_fires (hw : r.what.work = .onChannel c a) (hq : s.quiesced = false) :
    s.fallDue i r due =
      (s.fire c (s.firingOf i r a)).1.proceed i (r.record (s.fire c (s.firingOf i r a)).2.outcome) due := by
  simp [State.fallDue, State.firingOf, hw, hq]

end

/-- After a record that is due falls due, its slot holds none that is, and no action in flight came to its end (R44). -/
theorem State.fallDueAt_taken {s : State} (hs : RangesKept s) {i : SlotIx} {r : ActionRecord}
    (hr : s.table.recordAt i = some r) (hdue : isDue s.time r = true) :
    (∀ q, (s.fallDueAt i).table.recordAt i = some q → isDue s.time q = false)
    ∧ ∀ c : ChannelIx, (s.channels[c]).NoneEnds (s.fallDueAt i).channels[c] := by
  obtain ⟨due, hp, hreached⟩ := (isDue_iff _ _).mp hdue
  have hrange := (hs.records i r hr).what
  /- What remains where the record has proceeded, its outcome recorded. -/
  have hproceeds {t : State} (htime : t.time = s.time) (hends : ∀ c : ChannelIx, (s.channels[c]).NoneEnds t.channels[c])
      (o : LastOutcome) :
      (∀ q, (t.proceed i (r.record o) due).table.recordAt i = some q → isDue s.time q = false)
      ∧ ∀ c : ChannelIx, (s.channels[c]).NoneEnds (t.proceed i (r.record o) due).channels[c] := by
    have hwhat : (r.record o).what = r.what := (r.record_sameItems o).what
    refine ⟨fun q hq => ?_, fun c => by rw [State.proceed_channels]; exact hends c⟩
    rw [← htime]
    exact State.proceed_not_due (by rw [hwhat]; exact hrange) (by rw [hwhat, htime]; exact hreached) hq
  rw [State.fallDueAt_of_armed hr hp]
  cases hw : r.what.work with
  | mark =>
    rw [State.fallDue_of_mark hw]
    exact hproceeds (t := s.mark _) rfl (fun _ => .refl _) _
  | onChannel c a =>
    cases hq : s.quiesced with
    | false =>
      rw [State.fallDue_of_fires hw hq]
      obtain ⟨-, -, -, htime, -, -, -, -, -, hchannels⟩ := s.fire_frame c (s.firingOf i r a)
      refine hproceeds htime (fun d => ?_) _
      rw [hchannels]
      exact State.setChannel_noneEnds s (Channel.take_noneEnds _ (ChanAction.timed_inRange (hw ▸ hrange.work) _)) d
    | true =>
      cases hm : r.what.miss with
      | drop =>
        rw [State.fallDue_of_drop hw hq hm]
        exact hproceeds (t := s.raise _) rfl (fun _ => .refl _) _
      | hold =>
        rw [State.fallDue_of_hold hw hq hm]
        refine ⟨fun q hq => ?_, fun c => .refl _⟩
        have hsuspended : (s.suspend i r due).table.recordAt i = some { r with phase := .suspended due } :=
          s.table.recordAt_write_self i _
        rw [hsuspended] at hq
        cases hq
        rfl

/-! ### Claims and happenings -/

/-- The records of a claim taken one after another: none of their slots holds a record that is due, and nothing new is due. -/
theorem State.foldl_fallDueAt_taken {l : List SlotIx} (hl : l.Nodup) {s : State} (hs : RangesKept s)
    (hdue : ∀ i ∈ l, ∃ r, s.table.recordAt i = some r ∧ isDue s.time r = true) :
    (∀ i ∈ l, ∀ q, (l.foldl State.fallDueAt s).table.recordAt i = some q → isDue s.time q = false)
    ∧ ∀ c : ChannelIx, (s.channels[c]).NoneEnds (l.foldl State.fallDueAt s).channels[c] := by
  induction l generalizing s with
  | nil => exact ⟨nofun, fun _ => .refl _⟩
  | cons i rest ih =>
    obtain ⟨hi, hrest⟩ := List.nodup_cons.mp hl
    obtain ⟨r, hr, hrdue⟩ := hdue i List.mem_cons_self
    have hsame := s.fallDueAt_sameBut i
    obtain ⟨b, hmoves⟩ := State.fallDueAt_moves (s := s) (i := i) fun q hq => by
      obtain rfl := Option.some.inj (hr.symm.trans hq)
      exact hrdue
    have hranges := hmoves.keeps RangesKept.quiet RangesKept.ending RangesKept.report hs
    obtain ⟨hfirst, hends⟩ := State.fallDueAt_taken hs hr hrdue
    obtain ⟨hothers, hends'⟩ := ih hrest hranges fun j hj => by
      obtain ⟨q, hq, hqdue⟩ := hdue j (List.mem_cons_of_mem i hj)
      have hne : j ≠ i := fun e => hi (e ▸ hj)
      exact ⟨q, (hsame.recordAt hne).trans hq, hsame.time ▸ hqdue⟩
    obtain ⟨-, -, -, hkept⟩ := State.foldl_fallDueAt_sameBut rest (s.fallDueAt i)
    refine ⟨fun j hj q hq => ?_, fun c => ⟨fun e => (hends c).pulse ((hends' c).pulse e), fun e => (hends c).burst ((hends' c).burst e)⟩⟩
    rcases List.mem_cons.mp hj with rfl | hj
    · exact hfirst q ((congrArg Slot.content (hkept j hi)).symm.trans hq)
    · rw [← hsame.time]
      exact hothers j hj q hq

theorem State.exists_due_of_mem_claimSlots {s : State} {x : DueClaim} {i : SlotIx} (h : i ∈ s.claimSlots x) :
    ∃ r, s.table.recordAt i = some r ∧ isDue s.time r = true := by
  have hrecord : ∃ r, s.table.recordAt i = some r := by
    cases x with
    | channel d c =>
      obtain ⟨r, due, a, hr, -⟩ := State.mem_claimSlots_channel.mp h
      exact ⟨r, hr⟩
    | mark j =>
      obtain ⟨rfl, r, due, hr, -⟩ := State.mem_claimSlots_mark.mp h
      exact ⟨r, hr⟩
  obtain ⟨r, hr⟩ := hrecord
  exact ⟨r, hr, State.isDue_of_mem_claimSlots h hr⟩

/-- The claim is of a happening that is still to be taken exactly where it covers a slot (R44). -/
theorem State.comesDue_claim_iff (s : State) (x : DueClaim) :
    s.comesDue (Happening.claim x).command ↔ ∃ i, i ∈ s.claimSlots x := by
  cases x with
  | channel d c => exact exists_congr fun i => State.mem_claimSlots_channel.symm
  | mark i =>
    refine ⟨fun h => ⟨i, State.mem_claimSlots_mark.mpr ⟨rfl, h⟩⟩, fun ⟨j, hj⟩ => (State.mem_claimSlots_mark.mp hj).2⟩

/-- A claim taken is not due any more, and nothing new is (R44). -/
theorem State.takeClaim_taken {s : State} (hs : RangesKept s) (x : DueClaim) :
    s.NothingNew (s.takeClaim x) ∧ ¬ (s.takeClaim x).comesDue (Happening.claim x).command := by
  obtain ⟨htime, -, -, hkept⟩ := State.foldl_fallDueAt_sameBut (s.claimSlots x) s
  obtain ⟨htaken, hends⟩ := State.foldl_fallDueAt_taken (s.claimSlots_nodup x) hs
    fun i hi => State.exists_due_of_mem_claimSlots hi
  have htime : (s.takeClaim x).time = s.time := htime
  /- A record that is due stands in no slot of the claim, so it stood there before. -/
  have houtside {i : SlotIx} {r : ActionRecord} (hr : (s.takeClaim x).table.recordAt i = some r)
      (hdue : isDue (s.takeClaim x).time r = true) : i ∉ s.claimSlots x := fun hi => by
    rw [htime, htaken i hi r hr] at hdue
    cases hdue
  have hnew : s.NothingNew (s.takeClaim x) := ⟨htime, fun i r hr hdue =>
    (congrArg Slot.content (hkept i (houtside hr hdue))).symm.trans hr, hends⟩
  refine ⟨hnew, fun hdue => ?_⟩
  obtain ⟨i, hi⟩ := (State.comesDue_claim_iff _ _).mp hdue
  obtain ⟨r, hr, hrdue⟩ := State.exists_due_of_mem_claimSlots hi
  refine houtside hr hrdue ?_
  cases x with
  | channel d c => exact State.mem_claimSlots_channel.mpr (hnew.dueOn (State.mem_claimSlots_channel.mp hi))
  | mark j => exact State.mem_claimSlots_mark.mpr ⟨(State.mem_claimSlots_mark.mp hi).1, hnew.comesDue (x := .claim (.mark j)) hdue⟩

theorem State.setChannel_nothingNew {s : State} {c : ChannelIx} {x : Channel} (h : (s.channels[c]).NoneEnds x) :
    s.NothingNew (s.setChannel c x) := ⟨rfl, fun _ _ hr _ => hr, s.setChannel_noneEnds h⟩

/-- A happening taken is not due any more, and nothing new is (R44, R78, R79). -/
theorem State.takeHappening_taken {s : State} (hs : RangesKept s) (x : Happening) :
    s.NothingNew (s.takeHappening x) ∧ ¬ (s.takeHappening x).comesDue x.command := by
  cases x with
  | claim y => exact State.takeClaim_taken hs y
  | pulseEnd c =>
    refine ⟨State.setChannel_nothingNew (Channel.endPulse_noneEnds _), fun hdue => ?_⟩
    have hreached := (Channel.endReached_iff _).mpr hdue
    simp [State.takeHappening, Channel.endPulse_not_reached] at hreached
  | phaseChange c =>
    refine ⟨State.setChannel_nothingNew (Channel.phaseChange_noneEnds (hs.channels c)), fun hdue => ?_⟩
    have hover := (Channel.phaseOver_iff _).mpr hdue
    have hnot := Channel.phaseChange_not_over (hs.channels c)
    rw [Fin.getElem_fin] at hnot
    simp [State.takeHappening, hnot] at hover

theorem State.takeHappening_ranges {s : State} (hs : RangesKept s) (x : Happening) : RangesKept (s.takeHappening x) := by
  cases x with
  | claim y =>
    obtain ⟨b, m⟩ := State.foldl_fallDueAt_moves (s.claimSlots_nodup y) fun i hi r hr => State.isDue_of_mem_claimSlots hi hr
    exact m.report.keeps RangesKept.quiet RangesKept.ending RangesKept.report hs
  | pulseEnd c => exact hs.quiet (.channel (s.channelChange_endPulse _))
  | phaseChange c => exact hs.quiet (.channel (s.channelChange_phaseChange _))

theorem State.foldl_takeHappening_taken (l : List Happening) {s : State} (hs : RangesKept s) :
    s.NothingNew (l.foldl State.takeHappening s) ∧ ∀ x ∈ l, ¬ (l.foldl State.takeHappening s).comesDue x.command := by
  induction l generalizing s with
  | nil => exact ⟨.refl s, nofun⟩
  | cons x rest ih =>
    obtain ⟨hnew, htaken⟩ := State.takeHappening_taken hs x
    obtain ⟨hnew', hothers⟩ := ih (State.takeHappening_ranges hs x)
    refine ⟨hnew.trans hnew', fun y hy => ?_⟩
    rcases List.mem_cons.mp hy with rfl | hy
    · exact fun h => htaken (hnew'.comesDue h)
    · exact hothers y hy

/-! ### What is taken, each once -/

theorem pickOrder_perm (k : Nat) (l : List Happening) : (pickOrder k l.length l).Perm l := by
  generalize hn : l.length = n
  induction n generalizing k l with
  | zero => rw [List.length_eq_zero_iff.mp hn]; rfl
  | succ n ih =>
    match l with
    | [] => cases hn
    | [h] => rfl
    | h :: h2 :: rest =>
      have hi : Config.happeningOrder k % (h :: h2 :: rest).length < (h :: h2 :: rest).length := Nat.mod_lt _ (by simp)
      simp only [pickOrder]
      rw [List.getD_eq_getElem _ _ hi]
      refine ((ih _ _ ?_).cons _).trans (List.getElem_cons_eraseIdx_perm hi)
      rw [List.length_eraseIdx_of_lt hi, hn]
      rfl

theorem State.dueOn_iff {s : State} {d : Domain} {c : ChannelIx} {i : SlotIx} :
    s.dueOn d c i ↔ i ∈ s.dueSlots d ∧ s.table.channelAt i = some c := by
  rw [State.mem_dueSlots, ActionTable.channelAt_eq_some_iff]
  constructor
  · rintro ⟨r, due, a, hr, hp, hw, hd, hdue⟩
    exact ⟨⟨r, due, hr, hp, hdue, hd⟩, r, a, hr, hw⟩
  · rintro ⟨⟨r, due, hr, hp, hdue, hd⟩, q, a, hq, hw⟩
    obtain rfl := Option.some.inj (hr.symm.trans hq)
    exact ⟨r, due, a, hr, hp, hw, hd, hdue⟩

theorem ActionTable.channelAt_eq_none_iff {t : ActionTable} {i : SlotIx} {r : ActionRecord} (hr : t.recordAt i = some r) :
    t.channelAt i = none ↔ r.what.work = .mark := by
  rw [ActionTable.channelAt, hr, Option.bind_some, ActionRecord.channel]
  cases r.what.work <;> simp

theorem State.markDue_iff {s : State} {d : Domain} {i : SlotIx} :
    (s.markDue i ∧ ∃ r, s.table.recordAt i = some r ∧ r.what.base.domain = d)
      ↔ i ∈ s.dueSlots d ∧ s.table.channelAt i = none := by
  rw [State.mem_dueSlots]
  constructor
  · rintro ⟨⟨r, due, hr, hp, hw, hdue⟩, q, hq, hd⟩
    obtain rfl := Option.some.inj (hr.symm.trans hq)
    exact ⟨⟨r, due, hr, hp, hdue, hd⟩, (ActionTable.channelAt_eq_none_iff hr).mpr hw⟩
  · rintro ⟨⟨r, due, hr, hp, hdue, hd⟩, hnone⟩
    exact ⟨⟨r, due, hr, hp, (ActionTable.channelAt_eq_none_iff hr).mp hnone, hdue⟩, r, hr, hd⟩

/-- The claims of a domain still to be taken (R42, R43, R50). -/
theorem State.mem_dueClaims {s : State} {d : Domain} {x : DueClaim} :
    x ∈ s.dueClaims d ↔ s.claimComesDue d (.claim x) := by
  simp only [State.dueClaims, List.mem_append, List.mem_map, List.mem_filter, List.mem_finRange, true_and, List.any_eq_true,
    beq_iff_eq, ← State.dueOn_iff, ← State.markDue_iff]
  cases x with
  | channel e c =>
    simp only [DueClaim.channel.injEq, reduceCtorEq, and_false, exists_false, or_false]
    constructor
    · rintro ⟨c', hdue, rfl, rfl⟩
      exact ⟨hdue, rfl⟩
    · rintro ⟨hdue, rfl⟩
      exact ⟨c, hdue, rfl, rfl⟩
  | mark i =>
    simp only [DueClaim.mark.injEq, reduceCtorEq, and_false, exists_false, false_or, exists_eq_right]
    rfl

theorem DueClaim.channel_injective (d : Domain) : Function.Injective (DueClaim.channel d) := fun _ _ h => by cases h; rfl

theorem DueClaim.mark_injective : Function.Injective DueClaim.mark := fun _ _ h => by cases h; rfl

theorem State.dueClaims_nodup (s : State) (d : Domain) : (s.dueClaims d).Nodup := by
  refine List.Nodup.append ?_ ?_ ?_
  · exact ((List.nodup_finRange 16).filter _).map (DueClaim.channel_injective d)
  · exact ((s.table.slotsWith_nodup _).filter _).map DueClaim.mark_injective
  · intro x hx hy
    obtain ⟨c, -, rfl⟩ := List.mem_map.mp hx
    obtain ⟨i, -, e⟩ := List.mem_map.mp hy
    cases e

theorem Happening.claim_injective : Function.Injective Happening.claim := fun _ _ h => by cases h; rfl

theorem Happening.pulseEnd_injective : Function.Injective Happening.pulseEnd := fun _ _ h => by cases h; rfl

theorem Happening.phaseChange_injective : Function.Injective Happening.phaseChange := fun _ _ h => by cases h; rfl

theorem State.mem_duePulseEnds {s : State} {c : ChannelIx} :
    c ∈ s.duePulseEnds ↔ s.comesDue (Happening.pulseEnd c).command := by
  rw [State.duePulseEnds, List.mem_filter, Channel.endReached_iff]
  exact and_iff_right (List.mem_finRange c)

theorem State.mem_duePhaseChanges {s : State} {c : ChannelIx} :
    c ∈ s.duePhaseChanges ↔ s.comesDue (Happening.phaseChange c).command := by
  rw [State.duePhaseChanges, List.mem_filter, Channel.phaseOver_iff]
  exact and_iff_right (List.mem_finRange c)

theorem State.duePulseEnds_nodup (s : State) : s.duePulseEnds.Nodup := (List.nodup_finRange 16).filter _

theorem State.duePhaseChanges_nodup (s : State) : s.duePhaseChanges.Nodup := (List.nodup_finRange 16).filter _

/-- A claim of a domain is a claim (R44). -/
theorem State.claimComesDue_cases {s : State} {d : Domain} {x : Happening} (h : s.claimComesDue d x) : ∃ y, x = .claim y := by
  cases x with
  | claim y => exact ⟨y, rfl⟩
  | pulseEnd => exact h.2.elim
  | phaseChange => exact h.2.elim

theorem State.mem_map_dueClaims {s : State} {d : Domain} {x : Happening} :
    x ∈ (s.dueClaims d).map .claim ↔ s.claimComesDue d x := by
  rw [List.mem_map]
  constructor
  · rintro ⟨y, hy, rfl⟩
    exact State.mem_dueClaims.mp hy
  · intro h
    obtain ⟨y, rfl⟩ := State.claimComesDue_cases h
    exact ⟨y, State.mem_dueClaims.mpr h, rfl⟩

/-- A claim that has come about is one of TIME or of POSITION (R42, R43). -/
theorem State.comesDue_claim {s : State} {y : DueClaim} :
    s.comesDue (Happening.claim y).command ↔ s.claimComesDue .time (.claim y) ∨ s.claimComesDue .position (.claim y) := by
  refine ⟨fun h => ?_, fun h => h.elim And.left And.left⟩
  cases y with
  | channel d c =>
    cases d with
    | time => exact .inl ⟨h, rfl⟩
    | position => exact .inr ⟨h, rfl⟩
  | mark i =>
    obtain ⟨r, due, hr, -⟩ := id h
    cases hd : r.what.base.domain with
    | time => exact .inl ⟨h, r, hr, hd⟩
    | position => exact .inr ⟨h, r, hr, hd⟩

theorem State.mem_outstanding {s : State} {x : Happening} : x ∈ s.outstanding ↔ s.comesDue x.command := by
  simp only [State.outstanding, List.map_append, List.mem_append, State.mem_map_dueClaims]
  cases x with
  | claim y =>
    rw [State.comesDue_claim]
    simp
  | pulseEnd c =>
    rw [← State.mem_duePulseEnds]
    simp [State.claimComesDue]
  | phaseChange c =>
    rw [← State.mem_duePhaseChanges]
    simp [State.claimComesDue]

/-- A claim is of one domain (R42, R43, R50). -/
theorem State.claimComesDue_unique {s : State} {d e : Domain} {x : Happening} (h : s.claimComesDue d x)
    (k : s.claimComesDue e x) : d = e := by
  obtain ⟨y, rfl⟩ := State.claimComesDue_cases h
  cases y with
  | channel => exact h.2.symm.trans k.2
  | mark i =>
    obtain ⟨-, r, hr, hd⟩ := h
    obtain ⟨-, q, hq, he⟩ := k
    obtain rfl := Option.some.inj (hr.symm.trans hq)
    exact hd.symm.trans he

theorem State.outstanding_nodup (s : State) : s.outstanding.Nodup := by
  have hclaims : (s.dueClaims .time ++ s.dueClaims .position).Nodup := by
    refine (s.dueClaims_nodup _).append (s.dueClaims_nodup _) fun x hx hy => ?_
    have hcases := State.claimComesDue_unique (State.mem_dueClaims.mp hx) (State.mem_dueClaims.mp hy)
    cases hcases
  refine List.Nodup.append (List.Nodup.append (hclaims.map Happening.claim_injective)
    (s.duePulseEnds_nodup.map Happening.pulseEnd_injective) ?_) (s.duePhaseChanges_nodup.map Happening.phaseChange_injective) ?_
  · intro x hx hy
    obtain ⟨y, -, rfl⟩ := List.mem_map.mp hx
    obtain ⟨c, -, e⟩ := List.mem_map.mp hy
    cases e
  · intro x hx hy
    obtain ⟨c, -, rfl⟩ := List.mem_map.mp hy
    rcases List.mem_append.mp hx with hx | hx <;> obtain ⟨_, -, e⟩ := List.mem_map.mp hx <;> cases e

/-- The happenings given are taken each once, in some order (R44, notes/assumptions/4.md). -/
theorem State.settle_takes (s : State) {l : List Happening} (hl : l.Nodup) : ∃ p : List Happening, p.Nodup ∧ (∀ x, x ∈ p ↔ x ∈ l)
    ∧ s.settle l = p.foldl State.takeHappening (s.setFreeIx (s.freeIx + p.length)) := by
  have hperm := pickOrder_perm s.freeIx l
  exact ⟨_, hperm.nodup_iff.mpr hl, fun x => hperm.mem_iff, by rw [hperm.length_eq]; rfl⟩

theorem RangesKept.setFreeIx {s : State} (h : RangesKept s) (n : Nat) : RangesKept (s.setFreeIx n) :=
  ⟨h.records, h.reserve, h.lowThreshold, h.swept, h.divisor, h.grain, h.channels, h.senses, h.bindings, h.causes⟩

/-- What is taken is not due after it, and nothing new is (R42, R43, R78, R79). -/
theorem State.settle_taken {s : State} (hs : RangesKept s) (l : List Happening) :
    s.NothingNew (s.settle l) ∧ ∀ x ∈ l, ¬ (s.settle l).comesDue x.command := by
  obtain ⟨hnew, htaken⟩ := State.foldl_takeHappening_taken (pickOrder s.freeIx l.length l) (hs.setFreeIx (s.freeIx + l.length))
  exact ⟨⟨hnew.time, hnew.record, hnew.channel⟩, fun x hx => htaken x ((pickOrder_perm s.freeIx l).mem_iff.mpr hx)⟩

theorem State.mem_tickHappenings {s : State} {x : Happening} :
    x ∈ (s.dueClaims .time).map .claim ++ s.duePulseEnds.map .pulseEnd
      ↔ s.claimComesDue .time x ∨ ∃ c, x = .pulseEnd c ∧ s.comesDue x.command := by
  rw [List.mem_append, State.mem_map_dueClaims, List.mem_map]
  refine or_congr_right ⟨?_, ?_⟩
  · rintro ⟨c, hc, rfl⟩
    exact ⟨c, rfl, State.mem_duePulseEnds.mp hc⟩
  · rintro ⟨c, rfl, hc⟩
    exact ⟨c, State.mem_duePulseEnds.mpr hc, rfl⟩

theorem State.tickHappenings_nodup (s : State) : ((s.dueClaims .time).map Happening.claim ++ s.duePulseEnds.map Happening.pulseEnd).Nodup := by
  refine ((s.dueClaims_nodup _).map Happening.claim_injective).append (s.duePulseEnds_nodup.map Happening.pulseEnd_injective)
    fun x hx hy => ?_
  obtain ⟨y, -, rfl⟩ := List.mem_map.mp hx
  obtain ⟨c, -, e⟩ := List.mem_map.mp hy
  cases e

/-- Where no claim of a domain is due, none of its ARMED records is reached (R42, R43). -/
theorem State.not_reached_of_no_claim {s : State} {d : Domain} (h : ∀ x, ¬ s.claimComesDue d x) {i : SlotIx} {r : ActionRecord}
    {due : Word} (hr : s.table.recordAt i = some r) (hp : r.phase = .armed due) (hd : r.what.base.domain = d) :
    ¬ s.time.reached r.what.base due := by
  intro hdue
  cases hw : r.what.work with
  | mark => exact h (.claim (.mark i)) ⟨⟨r, due, hr, hp, hw, hdue⟩, r, hr, hd⟩
  | onChannel c a => exact h (.claim (.channel d c)) ⟨⟨i, r, due, a, hr, hp, hw, hd, hdue⟩, rfl⟩

/-- After the claims of a domain are taken, none of it is due (R42, R43). -/
theorem State.settle_no_claim {s : State} (hs : RangesKept s) {d : Domain} {l : List Happening}
    (hl : ∀ x, s.claimComesDue d x → x ∈ l) (x : Happening) : ¬ (s.settle l).claimComesDue d x := by
  obtain ⟨hnew, htaken⟩ := State.settle_taken hs l
  exact fun h => htaken x (hl x (hnew.claimComesDue h)) h.1

theorem State.settleTick_time_not_reached {s : State} (hs : RangesKept s) {i : SlotIx} {r : ActionRecord} {due : Word}
    (hr : s.settleTick.table.recordAt i = some r) (hp : r.phase = .armed due) (hb : r.what.base = .time) :
    due ≠ s.time.tbT := by
  have hnone := State.settle_no_claim hs (d := .time) (l := (s.dueClaims .time).map .claim ++ s.duePulseEnds.map .pulseEnd)
    fun x hx => State.mem_tickHappenings.mpr (.inl hx)
  have hnot := State.not_reached_of_no_claim hnone hr hp (by rw [hb]; rfl)
  rw [hb, Timebases.reached, (State.settle_taken hs _).1.time] at hnot
  exact hnot

theorem State.settleTick_no_pulse_at_end {s : State} (hs : RangesKept s) (c : ChannelIx) :
    ∀ q h, (s.settleTick.channels[c]).state ≠ .pulse q h 0 := by
  obtain ⟨hnew, htaken⟩ := State.settle_taken hs ((s.dueClaims .time).map .claim ++ s.duePulseEnds.map .pulseEnd)
  intro q h e
  have hdue : s.settleTick.comesDue (Happening.pulseEnd c).command := ⟨q, h, e⟩
  exact htaken (.pulseEnd c) (State.mem_tickHappenings.mpr (.inr ⟨c, rfl, hnew.comesDue hdue⟩)) hdue

theorem State.settleTick_time {s : State} (hs : RangesKept s) : s.settleTick.time = s.time := (State.settle_taken hs _).1.time

/-- A command that has come about but GRAIN_TICK is that of a happening. -/
theorem State.comesDue_cases {s : State} {c : Instr} (h : s.comesDue c) : c = .grainTick ∨ ∃ x : Happening, c = x.command := by
  unfold State.comesDue at h
  split at h
  · exact .inl rfl
  · exact .inr ⟨.claim _, rfl⟩
  · exact .inr ⟨.claim _, rfl⟩
  · exact .inr ⟨.pulseEnd _, rfl⟩
  · exact .inr ⟨.phaseChange _, rfl⟩
  · exact h.elim

theorem State.settleAll_not_due {s : State} (hs : RangesKept s) {c : Instr} (hc : c ≠ .grainTick) : ¬ s.settleAll.comesDue c := by
  obtain ⟨hnew, htaken⟩ := State.settle_taken hs s.outstanding
  intro h
  rcases State.comesDue_cases h with e | ⟨x, rfl⟩
  · exact hc e
  · exact htaken x (State.mem_outstanding.mpr (hnew.comesDue h)) h

theorem State.settle_nil (s : State) : s.settle [] = s := rfl

theorem State.settleAll_of_none_due {s : State} (h : ∀ c, c ≠ .grainTick → ¬ s.comesDue c) : s.settleAll = s := by
  have hnone : s.outstanding = [] := List.eq_nil_iff_forall_not_mem.mpr fun x hx => by
    refine h x.command ?_ (State.mem_outstanding.mp hx)
    cases x <;> exact nofun
  rw [State.settleAll, hnone, State.settle_nil]

/-- Settles O18: what is outstanding is taken once, each happening is not due after it, and nothing new comes to be due. -/
theorem settlingLeavesNothingDue : Obligations.SettlingLeavesNothingDue := by
  refine ⟨fun s x hr => exec_command hr x, fun s => ⟨?_, ?_, ?_⟩, fun s hs => ⟨?_, ?_, ?_⟩⟩
  · obtain ⟨p, hp, hmem, he⟩ := s.settle_takes s.tickHappenings_nodup
    exact ⟨p, hp, fun x => (hmem x).trans State.mem_tickHappenings, he⟩
  · obtain ⟨p, hp, hmem, he⟩ := s.settle_takes ((s.dueClaims_nodup .position).map Happening.claim_injective)
    exact ⟨p, hp, fun x => (hmem x).trans State.mem_map_dueClaims, he⟩
  · obtain ⟨p, hp, hmem, he⟩ := s.settle_takes s.outstanding_nodup
    exact ⟨p, hp, fun x => (hmem x).trans State.mem_outstanding, he⟩
  · exact ⟨fun i r due hr hp hb => State.settleTick_time_not_reached hs hr hp hb, State.settleTick_no_pulse_at_end hs,
      State.settleTick_time hs⟩
  · have hnone := State.settle_no_claim hs (d := .position) (l := (s.dueClaims .position).map .claim)
      fun x hx => State.mem_map_dueClaims.mpr hx
    have htime : s.settleStep.time = s.time := (State.settle_taken hs _).1.time
    refine ⟨fun i r d due hr hp hb hd e => ?_, htime⟩
    refine State.not_reached_of_no_claim hnone hr hp (by rw [hb]; rfl) ?_
    rw [hb, Timebases.reached]
    change due = s.settleStep.time.tbP ∧ s.settleStep.time.lastDir = some d
    rw [htime]
    exact ⟨e, hd⟩
  · exact ⟨fun c hc => State.settleAll_not_due hs hc, (State.settle_taken hs _).1.time, rfl, State.settleAll_of_none_due⟩

end Sys2Proof.Machine
end

section
/-! PROOF. Every number stays in its range and every ARMED TIME record ahead of TB-T (R18, R42, R124): a period, a tick, the exit
from the quiesced condition, TABLE_CLEAR and the resets. -/

namespace Sys2Proof.Machine

/-! ### Channels and sense inputs -/

/-- The range of a pulse widens where a tick of this instant comes to be outstanding (R73). -/
theorem Channel.InRange.widen {c : Channel} {b b' : Bool} (h : c.InRange b) (hb : b = true → b' = true) : c.InRange b' := by
  obtain ⟨hstate, h1, h2, h3⟩ := h
  refine ⟨?_, h1, h2, h3⟩
  cases hs : c.state with
  | pulse q k g =>
    rw [hs] at hstate
    cases b with
    | true => rw [hb rfl]; exact hstate
    | false => cases b' <;> simp [ChanState.inRange] at hstate ⊢ <;> omega
  | _ => rw [hs] at hstate; exact hstate

theorem Channel.InRange.period {c : Channel} {b : Bool} (h : c.InRange b) : c.period.InRange b := by
  have hstate := h.state
  unfold Channel.period
  split
  · next hs =>
    rw [hs] at hstate
    simp only [ChanState.inRange] at hstate
    exact ⟨⟨by omega, hstate.2⟩, h.conflicts, h.merges, h.preemptions⟩
  · exact h

/-- After a tick a pulse has at most 65535 grains to come (R64, R73). -/
theorem Channel.InRange.tick {c : Channel} {b : Bool} (h : c.InRange b) : c.tick.InRange false := by
  have hstate := h.state
  unfold Channel.tick
  split
  · next q k g hs =>
    rw [hs] at hstate
    refine ⟨?_, h.conflicts, h.merges, h.preemptions⟩
    cases b <;> simp [ChanState.inRange] at hstate ⊢ <;> omega
  · next hs =>
    refine h.of_not_pulsing (Bool.eq_false_iff.mpr fun e => ?_) false
    unfold Channel.pulsing at e
    split at e
    · next q k g e' => exact hs q k g e'
    · cases e

theorem Channel.InRange.leaveSafe {c : Channel} {b : Bool} (h : c.InRange b) : c.leaveSafe.InRange b := by
  refine ⟨?_, h.conflicts, h.merges, h.preemptions⟩
  change (if c.line = c.active then ChanState.asserted else .rest).inRange b
  split <;> trivial

theorem SenseInput.InRange.tick {x : SenseInput} (h : x.InRange) : x.tick.InRange := by
  refine ⟨h.prescale, h.counter, h.gap, fun e he => ?_⟩
  obtain ⟨n, -, rfl⟩ := Option.map_eq_some_iff.mp he
  exact bump16_le n

/-! ### Ranges -/

theorem RangesKept.leave {s : State} (h : RangesKept s) : RangesKept s.leave where
  records := h.records
  reserve := h.reserve
  lowThreshold := h.lowThreshold
  swept := h.swept
  divisor := h.divisor
  grain := h.grain
  channels c := by rw [State.leave_channel]; exact (h.channels c).leaveSafe
  senses := h.senses
  bindings := h.bindings
  causes := h.causes

theorem RangesKept.of_blocks {s t : State} (h : RangesKept s) (k : SameBlocks s t) : RangesKept t where
  records := k.table ▸ h.records
  reserve := k.table ▸ h.reserve
  lowThreshold := k.table ▸ h.lowThreshold
  swept := k.table ▸ h.swept
  divisor := k.time ▸ h.divisor
  grain := k.time ▸ h.grain
  channels c := by rw [k.time, k.channels]; exact h.channels c
  senses n := by rw [k.senses]; exact h.senses n
  bindings b := by rw [k.bindings]; exact h.bindings b
  causes j := by rw [k.attention]; exact h.causes j

theorem State.refclkPeriod_divisor (s : State) : s.refclkPeriod.time.divisor = s.time.divisor := by
  unfold State.refclkPeriod
  split <;> rfl

theorem State.refclkPeriod_tbT (s : State) : s.refclkPeriod.time.tbT = s.time.tbT := by
  unfold State.refclkPeriod
  split <;> rfl

theorem State.refclkPeriod_senses (s : State) : s.refclkPeriod.senses = s.senses := by
  unfold State.refclkPeriod
  split <;> rfl

theorem State.refclkPeriod_grainPhase (s : State) (h : s.time.grainPhase ≤ s.time.divisor) :
    s.time.grainPhase ≤ s.refclkPeriod.time.grainPhase ∧ s.refclkPeriod.time.grainPhase ≤ s.time.divisor := by
  unfold State.refclkPeriod
  split
  · exact ⟨le_rfl, h⟩
  · simp only [State.setChannels_time, State.setTime_time]
    omega

theorem RangesKept.period {s : State} (h : RangesKept s) : RangesKept s.refclkPeriod where
  records := s.refclkPeriod_table.symm ▸ h.records
  reserve := s.refclkPeriod_table.symm ▸ h.reserve
  lowThreshold := s.refclkPeriod_table.symm ▸ h.lowThreshold
  swept := s.refclkPeriod_table.symm ▸ h.swept
  divisor := s.refclkPeriod_divisor.symm ▸ h.divisor
  grain := by rw [s.refclkPeriod_divisor]; exact (s.refclkPeriod_grainPhase h.grain).2
  channels c := by
    have hwiden : s.time.grainWhole = true → s.refclkPeriod.time.grainWhole = true := by
      have hphase := s.refclkPeriod_grainPhase h.grain
      simp only [Timebases.grainWhole, decide_eq_true_eq, s.refclkPeriod_divisor]
      omega
    rcases s.refclkPeriod_channel c with e | e <;> rw [e]
    · exact (h.channels c).widen hwiden
    · exact (h.channels c).period.widen hwiden
  senses n := by rw [s.refclkPeriod_senses]; exact h.senses n
  bindings b := by rw [s.refclkPeriod_bindings]; exact h.bindings b
  causes k := by rw [s.refclkPeriod_attention]; exact h.causes k

theorem RangesKept.tickAll {s : State} (h : RangesKept s) : RangesKept s.tickAll where
  records := h.records
  reserve := h.reserve
  lowThreshold := h.lowThreshold
  swept := h.swept
  divisor := h.divisor
  grain := Nat.zero_le _
  channels c := by
    have hwhole : s.tickAll.time.grainWhole = false := Timebases.tick_grainWhole h.divisor.1
    rw [hwhole, State.tickAll_channel]
    exact (h.channels c).tick
  senses n := by
    have hsense : s.tickAll.senses[n] = (s.senses[n]).tick := by simp [State.tickAll]
    rw [hsense]
    exact (h.senses n).tick
  bindings := h.bindings
  causes := h.causes

/-- TABLE_CLEAR leaves the ranges; its count is at most the number of slots (R105). -/
theorem RangesKept.clearTable {s : State} (h : RangesKept s) : RangesKept s.clearTable := by
  refine RangesKept.report ⟨fun i r hr => ?_, h.reserve, h.lowThreshold, fun n hn => ?_, h.divisor, h.grain, h.channels, h.senses,
    fun b => ?_, h.causes⟩
  · have hnone : some r = none := hr.symm.trans (s.clearTable_recordAt i)
    cases hnone
  · cases hn
    omega
  · obtain ⟨h1, h2, h3, h4, -, h6⟩ := h.bindings b
    simp only [State.setBindings_bindings, Fin.getElem_fin, Vector.getElem_map]
    exact ⟨h1, h2, h3, h4, Nat.zero_le _, h6⟩

theorem RangesKept.setSwept {s : State} (h : RangesKept s) : RangesKept (s.setTable s.table.swept) where
  records i r hr := h.records i r (s.table.swept_recordAt i ▸ hr)
  reserve := h.reserve
  lowThreshold := h.lowThreshold
  swept := nofun
  divisor := h.divisor
  grain := h.grain
  channels := h.channels
  senses := h.senses
  bindings := h.bindings
  causes := h.causes

theorem AtResetValues.ranges {t : State} {a b z q : Level} {sen : SenseIx → Level} (h : AtResetValues t a b z q sen) :
    RangesKept t where
  records i r hr := absurd hr (by rw [h.no_record]; exact nofun)
  reserve := by rw [h.settings.1]; decide
  lowThreshold := by rw [h.settings.2]; decide
  swept n hn := absurd hn (by rw [h.normal]; exact nofun)
  divisor := by rw [h.timebases]; exact ⟨Nat.le_of_ble_eq_true rfl, Nat.le_of_ble_eq_true rfl⟩
  grain := by rw [h.timebases]; exact Nat.zero_le _
  channels c := by rw [h.channels c]; exact ⟨trivial, Nat.zero_le _, Nat.zero_le _, Nat.zero_le _⟩
  senses n := by
    rw [h.senses n]
    exact ⟨.inl rfl, Nat.one_pos, Nat.zero_le _, nofun⟩
  bindings b := by
    rw [h.bindings b]
    exact ⟨Nat.zero_le _, nofun, nofun, Nat.zero_le _, Nat.zero_le _, Nat.zero_le _⟩
  causes k := by rw [h.attention.1 k]; exact Nat.zero_le _

/-! ### The place of ARMED TIME records -/

theorem TimeDueAhead.of_eq {s t : State} (h : TimeDueAhead s) (hr : ∀ i, t.table.recordAt i = s.table.recordAt i)
    (ht : t.time.tbT = s.time.tbT) : TimeDueAhead t := fun i r due hi hb hp => by
  rw [ht]
  exact h i r due (hr i ▸ hi) hb hp

theorem TimeDueAhead.of_no_record {t : State} (h : ∀ i, t.table.recordAt i = none) : TimeDueAhead t :=
  fun i r due hr => absurd hr (by rw [h i]; exact nofun)

/-- A tick brings TB-T one grain nearer to a due value that it does not stand on (R24, R42). -/
theorem sub_add_one_le {due t : Word} (h : (due - t).toNat ≤ 2 ^ 30) (hne : due ≠ t) : (due - (t + 1)).toNat ≤ 2 ^ 30 := by
  bv_omega

theorem TimeDueAhead.tickAll {s : State} (h : TimeDueAhead s)
    (hne : ∀ i r due, s.table.recordAt i = some r → r.phase = .armed due → r.what.base = .time → due ≠ s.time.tbT) :
    TimeDueAhead s.tickAll := by
  intro i r due hr hb hp
  have hnow := h i r due hr hb hp
  change (due - s.time.tick.tbT).toNat ≤ 2 ^ 30
  rw [Timebases.tick]
  dsimp only
  split
  · exact sub_add_one_le hnow (hne i r due hr hp hb)
  · exact hnow

theorem timeDueInvariant_blockInvariant : BlockInvariant TimeDueInvariant where
  blocks h k := ⟨h.ranges.of_blocks k, h.ahead.of_eq (fun _ => by rw [k.table]) (by rw [k.time]),
    liveCountsExact_blockInvariant.blocks h.live k⟩
  runs h m := h.runs m
  exit {s} h _ _ := TimeDueInvariant.runs (s := s.leave) ⟨h.ranges.leave, h.ahead, h.live⟩ s.exitQuiesce_runs
  period {s} h := ⟨h.ranges.period, h.ahead.of_eq (fun _ => by rw [s.refclkPeriod_table]) s.refclkPeriod_tbT,
    liveCountsExact_blockInvariant.period h.live⟩
  tick {s} hs h := ⟨h.ranges.tickAll, h.ahead.tickAll fun i r due hr hp hb => by
      rw [State.settleTick_time hs.ranges]
      exact State.settleTick_time_not_reached hs.ranges hr hp hb, liveCountsExact_blockInvariant.tick hs.live h.live⟩
  clear {s} h hn := ⟨h.ranges.clearTable, .of_no_record s.clearTable_recordAt, liveCountsExact_blockInvariant.clear h.live hn⟩
  sweepEnd {s} _ h hn := ⟨h.ranges.setSwept, h.ahead.of_eq s.table.swept_recordAt rfl,
    liveCountsExact_blockInvariant.sweepEnd h.live hn⟩
  reset h := ⟨h.ranges, .of_no_record h.no_record, liveCountsExact_blockInvariant.reset h⟩

/-- Settles O59: the ranges in every small change, and TB-T advances only once no ARMED TIME record stands at it. -/
theorem timeRecordsStayAhead : Obligations.TimeRecordsStayAhead := fun _ _ h ht => timeDueInvariant_blockInvariant.step h ht

end Sys2Proof.Machine
end

section
/-! PROOF. Generations (R2): a claim that ends records moves a generation where it frees a slot, and one that takes slots moves
none; no command but the resets and TABLE_CLEAR with its sweep does both. -/

namespace Sys2Proof.Machine

/-- From `s` to `t` slots become FREE, each at its next generation, and none is taken (R2). -/
def FreesOnly (s t : State) : Prop := ∀ i,
  (t.table.slot i).gen = (if s.table.recordAt i ≠ none ∧ t.table.recordAt i = none then (s.table.slot i).gen + 1
    else (s.table.slot i).gen)
  ∧ (s.table.recordAt i = none → t.table.recordAt i = none)

/-- From `s` to `t` no generation moves and no slot becomes FREE (R2). -/
def TakesOnly (s t : State) : Prop := ∀ i,
  (t.table.slot i).gen = (s.table.slot i).gen ∧ (s.table.recordAt i ≠ none → t.table.recordAt i ≠ none)

theorem FreesOnly.of_table_eq {s t : State} (h : t.table = s.table) : FreesOnly s t := fun i => by
  rw [h]
  exact ⟨(if_neg fun e => e.1 e.2).symm, id⟩

theorem TakesOnly.of_table_eq {s t : State} (h : t.table = s.table) : TakesOnly s t := fun i => by
  rw [h]
  exact ⟨rfl, id⟩

theorem FreesOnly.trans {s t u : State} (h : FreesOnly s t) (k : FreesOnly t u) : FreesOnly s u := by
  intro i
  obtain ⟨hgen, hfree⟩ := h i
  obtain ⟨kgen, kfree⟩ := k i
  refine ⟨?_, kfree ∘ hfree⟩
  rw [kgen, hgen]
  by_cases hs : s.table.recordAt i = none
  · simp [hs, hfree hs]
  · by_cases ht : t.table.recordAt i = none
    · simp [hs, ht, kfree ht]
    · simp [hs, ht]

theorem TakesOnly.trans {s t u : State} (h : TakesOnly s t) (k : TakesOnly t u) : TakesOnly s u := fun i =>
  ⟨(k i).1.trans (h i).1, (k i).2 ∘ (h i).2⟩

/-- Both ways to change the table move a generation exactly where a live slot becomes FREE (R2). -/
theorem gen_of_frees_or_takes {s t : State} (h : FreesOnly s t ∨ TakesOnly s t) (i : SlotIx) :
    (t.table.slot i).gen = if s.table.recordAt i ≠ none ∧ t.table.recordAt i = none then (s.table.slot i).gen + 1
      else (s.table.slot i).gen := by
  rcases h with h | h
  · exact (h i).1
  · rw [if_neg fun e => (h i).2 e.1 e.2]
    exact (h i).1

/-! ### The small changes -/

/-- A quiet change frees no slot and takes none. -/
theorem QuietMove.isNone {s t : State} (m : QuietMove s t) (i : SlotIx) : t.table.recordAt i = none ↔ s.table.recordAt i = none := by
  have hfree := m.sameLevels.free i
  rwa [Bool.eq_iff_iff, Option.isNone_iff_eq_none, Option.isNone_iff_eq_none] at hfree

theorem QuietMove.gen {s t : State} (m : QuietMove s t) (i : SlotIx) : (t.table.slot i).gen = (s.table.slot i).gen := by
  rw [m.slot i]
  rfl

theorem QuietMove.freesOnly {s t : State} (m : QuietMove s t) : FreesOnly s t := fun i =>
  ⟨(m.gen i).trans (if_neg fun e => e.1 ((m.isNone i).mp e.2)).symm, (m.isNone i).mpr⟩

theorem QuietMove.takesOnly {s t : State} (m : QuietMove s t) : TakesOnly s t := fun i =>
  ⟨m.gen i, fun h e => h ((m.isNone i).mp e)⟩

/-- The end of a record's work frees its slot at the next generation or leaves it live (R2, R58, R59). -/
theorem EndingMove.freesOnly {s t : State} (m : EndingMove s t) : FreesOnly s t := by
  cases m with
  | @done i r r' reason hr =>
    obtain ⟨hrecord, -, -⟩ := s.makeDone_table i r' reason
    intro j
    rw [hrecord, State.makeDone_slot]
    by_cases hj : i = j
    · subst hj
      simp [hr]
    · simp [hj]
  | @free i r r' hr =>
    obtain ⟨hslot, -, -⟩ := s.freeSlot_table i r'
    intro j
    rw [hslot, State.freeSlot_recordAt]
    by_cases hj : i = j
    · subst hj
      simp [hr]
    · simp [hj]

theorem TakingMove.takesOnly {s t : State} (m : TakingMove s t) : TakesOnly s t := by
  intro i
  refine ⟨by rw [m.slot i]; rfl, fun h => ?_⟩
  cases m with
  | @arm j r =>
    rw [State.setTable_table, ActionTable.recordAt_write]
    split
    · exact nofun
    · exact h
  | @spawn b stampP _ =>
    refine State.makeSpawn_induction (Q := fun t => t.recordAt i ≠ none) (fun hq _ _ => ?_) h
    rw [ActionTable.recordAt_write]
    split
    · exact nofun
    · exact hq
  | settings => exact h

theorem Moves.freesOnly {s t : State} {b : Bool} (m : Moves EndingMove s b t) : FreesOnly s t :=
  m.keeps (P := FreesOnly s) (fun h m => h.trans m.freesOnly) (fun h m => h.trans m.freesOnly)
    (fun h => h.trans (.of_table_eq rfl)) (.of_table_eq rfl)

theorem Moves.takesOnly {s t : State} {b : Bool} (m : Moves TakingMove s b t) : TakesOnly s t :=
  m.keeps (P := TakesOnly s) (fun h m => h.trans m.takesOnly) (fun h m => h.trans m.takesOnly)
    (fun h => h.trans (.of_table_eq rfl)) (.of_table_eq rfl)

theorem Runs.frees_or_takes {s t : State} (m : Runs s t) : FreesOnly s t ∨ TakesOnly s t :=
  m.imp Moves.freesOnly Moves.takesOnly

/-! ### What commands are made of -/

theorem State.takeHappening_freesOnly (s : State) (x : Happening) : FreesOnly s (s.takeHappening x) := by
  cases x with
  | claim y =>
    obtain ⟨b, m⟩ := State.foldl_fallDueAt_moves (s.claimSlots_nodup y) fun i hi r hr => State.isDue_of_mem_claimSlots hi hr
    exact m.report.freesOnly
  | pulseEnd => exact .of_table_eq rfl
  | phaseChange => exact .of_table_eq rfl

theorem State.settle_freesOnly (s : State) (l : List Happening) : FreesOnly s (s.settle l) := by
  have hfold : ∀ (l : List Happening) (s : State), FreesOnly s (l.foldl State.takeHappening s) := by
    intro l
    induction l with
    | nil => exact fun s => .of_table_eq rfl
    | cons x rest ih => exact fun s => (s.takeHappening_freesOnly x).trans (ih _)
  exact hfold _ (s.setFreeIx _)

theorem State.passPeriods_freesOnly (n : Nat) (s : State) : FreesOnly s (State.passPeriods n s) := by
  induction n generalizing s with
  | zero => exact .of_table_eq rfl
  | succ n ih =>
    have hperiod : FreesOnly s s.passPeriod := (s.settle_freesOnly _).trans (.of_table_eq (State.refclkPeriod_table _))
    exact hperiod.trans (ih _)

theorem State.exitQuiesce_freesOnly (s : State) : FreesOnly s s.exitQuiesce := by
  obtain ⟨b, m⟩ := State.foldl_releaseOne_moves s.table.suspended s.leave
  exact (FreesOnly.of_table_eq s.leave_table).trans m.report.freesOnly

theorem Settled.frees_or_takes {s : State} {x : State × Reply} (h : Settled s x) : FreesOnly s x.1 ∨ TakesOnly s x.1 := by
  rcases h with ⟨r, -, rfl⟩ | ⟨t, bytes, rfl, h | ⟨-, -, rfl⟩⟩
  · exact .inl (.of_table_eq rfl)
  · exact h.frees_or_takes
  · exact .inl s.exitQuiesce_freesOnly

/-- A request that answers in its claim changes the table as its claim does (R174). -/
theorem State.submit_frees_or_takes {s : State} (tag : Byte) {claim : State → State × Reply} (h : Settled s (claim s)) :
    FreesOnly s (s.submit tag claim) ∨ TakesOnly s (s.submit tag claim) := by
  cases hr : s.rstn with
  | low =>
    rw [s.submit_low tag claim hr]
    exact .inl (.of_table_eq rfl)
  | high =>
    cases hb : s.link.blocked with
    | true =>
      rw [s.submit_blocked tag claim hr hb]
      exact .inl (.of_table_eq rfl)
    | false =>
      rw [s.submit_accepted tag claim hr hb]
      exact h.frees_or_takes.imp (·.trans (.of_table_eq rfl)) (·.trans (.of_table_eq rfl))

/-- What a happening does while RSTn is high, it does to the table or not at all (R180). -/
theorem frees_or_takes_of_rstn {s t u : State} (h : FreesOnly s u ∨ TakesOnly s u)
    (ht : (Host.Outcome.next (if s.rstn = .low then s else u) : Host.Outcome State Fault Refusal) = .next t) :
    FreesOnly s t ∨ TakesOnly s t := by
  cases ht
  split
  · exact .inl (.of_table_eq rfl)
  · exact h

/-- Every command but the resets, TABLE_CLEAR with its sweep and a window close. -/
theorem exec_frees_or_takes {s t : State} {c : Instr} (ht : exec c s = .next t) (hpower : ∀ v l, c ≠ .powerOn v l)
    (hlow : c ≠ .rstnLow) (hhigh : ∀ l, c ≠ .rstnHigh l) (hsoft : ∀ g p, c ≠ .softReset g p)
    (hclear : ∀ g p, c ≠ .tableClear g p) (hend : c ≠ .sweepEnd) (hclose : ∀ m, c ≠ .windowClose m) :
    FreesOnly s t ∨ TakesOnly s t := by
  by_cases hrequest : ∃ tag, requestTag c = some tag
  · obtain ⟨tag, htag⟩ := hrequest
    rcases exec_request htag with ⟨claim, he, hsettled⟩ | ⟨p, rfl⟩ | rfl
    · rw [he] at ht
      cases ht
      exact State.submit_frees_or_takes tag (hsettled s)
    · exact absurd rfl (hclear tag p)
    · exact absurd rfl (hsoft tag _)
  cases c <;> first | exact absurd ⟨_, rfl⟩ hrequest | skip
  case powerOn v l => exact absurd rfl (hpower v l)
  case rstnLow => exact absurd rfl hlow
  case rstnHigh l => exact absurd rfl (hhigh l)
  case windowClose m => exact absurd rfl (hclose m)
  case sweepEnd => exact absurd rfl hend
  case grainTick =>
    refine frees_or_takes_of_rstn (.inl ?_) ht
    exact ((s.passPeriods_freesOnly _).trans (State.settle_freesOnly _ _)).trans (.of_table_eq (State.tickAll_table _))
  case fallingDue x => exact frees_or_takes_of_rstn (.inl (s.takeHappening_freesOnly (.claim x))) ht
  case pulseEnd c =>
    refine frees_or_takes_of_rstn (.inl ?_) ht
    exact .of_table_eq rfl
  case burstPhaseChange c =>
    refine frees_or_takes_of_rstn (.inl ?_) ht
    exact .of_table_eq rfl
  case encoderStep d =>
    refine frees_or_takes_of_rstn (.inl ?_) ht
    exact (s.settle_freesOnly _).trans (.of_table_eq rfl)
  case encoderFault =>
    refine frees_or_takes_of_rstn (.inl ?_) ht
    exact .of_table_eq rfl
  case enczRisingEdge =>
    refine frees_or_takes_of_rstn (.inl ?_) ht
    split <;> exact .of_table_eq rfl
  case senseEdge n v =>
    refine frees_or_takes_of_rstn ?_ ht
    split
    · exact .inl (.of_table_eq rfl)
    · exact (s.edge_runs n v).frees_or_takes
  case quiescenFallingEdge =>
    refine frees_or_takes_of_rstn (.inl ?_) ht
    split
    · exact .of_table_eq rfl
    · exact .of_table_eq (by simp)
  case quiescenRisingEdge =>
    refine frees_or_takes_of_rstn (.inl ?_) ht
    exact .of_table_eq rfl
  case windowStart =>
    refine frees_or_takes_of_rstn (.inl ?_) ht
    split <;> exact .of_table_eq rfl
  case csnRiseAfterReset =>
    refine frees_or_takes_of_rstn (.inl ?_) ht
    unfold State.endWait
    split <;> exact .of_table_eq rfl

/-- Settles O60: by the two ways in which a command changes the table. -/
theorem generationsMoveOnlyOnFreeing : Obligations.GenerationsMoveOnlyOnFreeing :=
  fun _ _ _ ht hpower hlow hhigh hsoft hclear hend hclose =>
    gen_of_frees_or_takes (exec_frees_or_takes ht hpower hlow hhigh hsoft hclear hend hclose)

end Sys2Proof.Machine
end

section
/-! PROOF. The command link (chapter 10): what becomes of a request that is taken, and of one that is not (R173 to R177). -/

namespace Sys2Proof.Machine

/-! ### What becomes of a request -/

theorem Taken.keepsLink {s t : State} (h : Taken s t) : KeepsLink s t := by
  rcases h with h | ⟨-, -, rfl⟩
  · exact h.keepsLink
  · exact KeepsLink.trans (t := s.leave) ⟨rfl, rfl, rfl, rfl, rfl⟩ s.exitQuiesce_runs.keepsLink

/-- What an accepted request comes to: a refusal, an OK, or one of the two that answer otherwise. -/
inductive RequestDone (s : State) (c : Instr) (tag : Byte) : State → Prop
  | refused {r : Result} (hr : r ≠ .ok) (hc : ¬ (c = .tableClear tag (.fits ()) ∧ s.normal)) : RequestDone s c tag (s.answered tag r [])
  | settled {t : State} {bytes : List Byte} (ht : Taken s t) (hc : ∀ p, c ≠ .tableClear tag p) :
      RequestDone s c tag (t.answered tag .ok bytes)
  | cleared (hc : c = .tableClear tag (.fits ())) (hn : s.normal) :
      RequestDone s c tag (s.clearTable.enqueue { tag := tag, reply := none })
  | reset (hc : c = .softReset tag (.fits ())) : RequestDone s c tag (s.softReset tag)

theorem exec_tableClear_accepted {s : State} (h : s.accepts) (tag : Byte) (p : PadOnly) :
    exec (.tableClear tag p) s =
      .next ((tableClearClaim p s).1.enqueue { tag := tag, reply := (tableClearClaim p s).2 }) := by
  obtain ⟨hrstn, hrefusal, hroom⟩ := h
  rw [exec_tableClear, State.submitEntry, if_neg (by simp [hrstn]),
    if_neg (by simp [(Link.blocked_eq_false s.link).mpr ⟨hrefusal, hroom⟩])]

theorem exec_softReset_accepted {s : State} (h : s.accepts) (tag : Byte) :
    exec (.softReset tag (.fits ())) s = .next (s.softReset tag) := by
  obtain ⟨hrstn, hrefusal, hroom⟩ := h
  rw [exec_softReset_fits, if_neg (by simp [hrstn]), if_neg (by simp [(Link.blocked_eq_false s.link).mpr ⟨hrefusal, hroom⟩])]

/-- Every request that the link takes comes to one of the four (R174). -/
theorem exec_request_done {s : State} (h : s.accepts) {c : Instr} {tag : Byte} (htag : requestTag c = some tag) :
    ∃ t, exec c s = .next t ∧ RequestDone s c tag t := by
  by_cases hclear : ∃ p, c = .tableClear tag p
  · obtain ⟨p, rfl⟩ := hclear
    refine ⟨_, exec_tableClear_accepted h tag p, ?_⟩
    rcases tableClearClaim_cases p s with ⟨r, hr, he, hn⟩ | ⟨rfl, hn, he⟩ <;> rw [he]
    · exact .refused hr fun ⟨e, hs⟩ => hn ⟨by cases e; rfl, hs⟩
    · exact .cleared rfl hn
  rcases exec_request htag with ⟨claim, he, hsettled⟩ | hc | rfl
  · rw [he, State.submit_of_accepts h]
    refine ⟨_, rfl, ?_⟩
    rcases hsettled s with ⟨r, hr, hx⟩ | ⟨t, bytes, hx, ht⟩ <;> rw [hx]
    · exact .refused hr fun e => hclear ⟨_, e.1⟩
    · exact .settled ht fun p e => hclear ⟨p, e⟩
  · exact absurd hc hclear
  · exact ⟨_, exec_softReset_accepted h tag, .reset rfl⟩

/-- A blocked link discards every request and sets the refusal latch (step 6 of R173). -/
theorem exec_request_blocked {s : State} (hr : s.rstn = .high) (hb : s.link.blocked = true) {c : Instr} {tag : Byte}
    (htag : requestTag c = some tag) : exec c s = .next (s.setLink { s.link with refusal := true }) := by
  rcases exec_request htag with ⟨claim, he, -⟩ | ⟨p, rfl⟩ | rfl
  · rw [he, s.submit_blocked tag claim hr hb]
  · rw [exec_tableClear, State.submitEntry, if_neg (by simp [hr]), if_pos hb]
  · rw [exec_softReset_fits, if_neg (by simp [hr]), if_pos hb]

theorem Link.blocked_iff (l : Link) : l.blocked = true ↔ l.refusal = true ∨ 4 ≤ l.queue.length := by
  rw [Link.blocked, Bool.or_eq_true, decide_eq_true_eq]
  rfl

/-- Settles O7: the blocked link's branch of every request. -/
theorem blockedLinkDiscardsEveryRequest : Obligations.BlockedLinkDiscardsEveryRequest :=
  fun s _ _ htag hr hb => exec_request_blocked hr ((Link.blocked_iff s.link).mpr hb) htag

/-- The entry that a claim's answer leaves at the tail is its own. -/
theorem queue_tail_inj {l : List Entry} {a b : Entry} (h : l ++ [a] = l ++ [b]) : a = b := by simpa using h

/-- Settles O8: a request with another result than OK took the branch that changes nothing. -/
theorem refusedRequestChangesNothing : Obligations.RefusedRequestChangesNothing := by
  intro s t c tag r p htag h ht hqueue hr
  obtain ⟨u, hu, hdone⟩ := exec_request_done h htag
  rw [hu] at ht
  cases ht
  cases hdone with
  | refused =>
    obtain ⟨rfl, rfl⟩ : _ ∧ _ := by simpa using queue_tail_inj hqueue
    exact ⟨rfl, rfl⟩
  | @settled t bytes ht =>
    rw [State.answered, ht.keepsLink.link] at hqueue
    have hentry := queue_tail_inj hqueue
    cases hentry
    exact absurd rfl hr
  | cleared =>
    have hentry := queue_tail_inj hqueue
    cases hentry
  | reset =>
    have hempty : s.link.queue = [] := by
      have hlength := congrArg List.length hqueue
      rw [List.length_append] at hlength
      exact List.length_eq_zero_iff.mp (by simpa [State.softReset, State.resetBlocks, softResetLink] using hlength.symm)
    rw [hempty] at hqueue
    cases hqueue
    exact absurd rfl hr

/-- Settles O9: the entry of each outcome, at the tail. -/
theorem acceptedRequestJoinsTheQueue : Obligations.AcceptedRequestJoinsTheQueue := by
  intro s c tag htag h hsoft
  obtain ⟨t, ht, hdone⟩ := exec_request_done h htag
  refine ⟨t, ?_⟩
  have filled (r : Reply) : (some r : Option Reply) ≠ none := nofun
  cases hdone with
  | refused hr hc => exact ⟨{ tag := tag, reply := some _ }, ht, rfl, rfl, iff_of_false (filled _) hc, rfl, rfl, rfl⟩
  | @settled u bytes hk hc =>
    obtain ⟨hpending, hrstn, hlink, hfreeIx, -⟩ := hk.keepsLink
    refine ⟨{ tag := tag, reply := some { result := .ok, payload := bytes } }, ht, ?_, rfl, iff_of_false (filled _) fun e => hc _ e.1, hpending, hrstn, hfreeIx⟩
    rw [State.answered, hlink]
  | cleared hc hn => exact ⟨{ tag := tag, reply := none }, ht, rfl, rfl, iff_of_true rfl ⟨hc, hn⟩, rfl, rfl, rfl⟩
  | reset hc => exact absurd hc hsoft

end Sys2Proof.Machine
end

section
/-! PROOF. Request codes (R181), bytes and CRC (R169, R172), and the window's beginning and end (R170, R171, R173). -/

namespace Sys2Proof.Machine

/-! ### Codes -/

/-- How many requests the chapter of an upper half has (R181). -/
def chapterRequests (n : Nat) : Nat := match n with
  | 1 => 2 | 2 => 9 | 4 => 2 | 5 => 9 | 6 => 2 | 7 => 4 | 8 => 3 | 9 => 4 | 10 => 2 | _ => 0

/-- The number names a request: its lower half is 1 to the count of its chapter's requests (R181). -/
def NamedCode (n : Nat) : Prop := 1 ≤ n % 16 ∧ n % 16 ≤ chapterRequests (n / 16)

/-- The codes that name a request (R181). -/
def namedCodes : List Nat :=
  [0x11, 0x12, 0x21, 0x22, 0x23, 0x24, 0x25, 0x26, 0x27, 0x28, 0x29, 0x41, 0x42, 0x51, 0x52, 0x53, 0x54, 0x55, 0x56, 0x57, 0x58,
    0x59, 0x61, 0x62, 0x71, 0x72, 0x73, 0x74, 0x81, 0x82, 0x83, 0x91, 0x92, 0x93, 0x94, 0xA1, 0xA2]

theorem mem_namedCodes : ∀ n : Fin 256, 1 ≤ n.val % 16 ∧ n.val % 16 ≤ chapterRequests (n.val / 16) → n.val ∈ namedCodes := by
  decide +kernel

/-- A code is read as the request of its chapter and place where it names one, and as UNKNOWN_REQUEST where it does not. -/
theorem decodeRequest_place (code tag : Byte) (payload : List Byte) :
    (NamedCode code.toNat ∧ requestPlace (decodeRequest code tag payload) = some (code.toNat / 16, code.toNat % 16))
    ∨ (¬ NamedCode code.toNat ∧ decodeRequest code tag payload = .unknownRequest tag) := by
  unfold decodeRequest
  split
  case h_38 =>
    refine .inr ⟨fun h => ?_, rfl⟩
    have hmem := mem_namedCodes ⟨code.toNat, code.isLt⟩ h
    simp_all [namedCodes]
  all_goals
    next h =>
      rw [h]
      exact .inl ⟨⟨by decide, by decide⟩, rfl⟩

/-- Settles O13: each code is read at its place, and UNKNOWN_REQUEST is refused whatever it carries. -/
theorem unknownCodesAreAnsweredUnknown : Obligations.UnknownCodesAreAnsweredUnknown := by
  refine ⟨fun code tag payload => ?_, fun s tag h => exec_of_refuse h rfl rfl⟩
  change (_ ↔ ¬ NamedCode code.toNat) ∧ (NamedCode code.toNat → _)
  rcases decodeRequest_place code tag payload with ⟨hnamed, hplace⟩ | ⟨hnot, hunknown⟩
  · refine ⟨iff_of_false (fun e => ?_) (fun h => h hnamed), fun _ => ⟨hplace, requestTag_decodeRequest code tag payload⟩⟩
    rw [e] at hplace
    cases hplace
  · exact ⟨iff_of_true hunknown hnot, fun h => absurd h hnot⟩

/-! ### Bits and bytes -/

/-- A byte's bits in the order clocked (R169). -/
def msbFirst (b : Byte) : List Bool := (List.range 8).map (fun k => b.getLsbD (7 - k))

theorem msbFirst_eq (b : Byte) : msbFirst b =
    [b.getLsbD 7, b.getLsbD 6, b.getLsbD 5, b.getLsbD 4, b.getLsbD 3, b.getLsbD 2, b.getLsbD 1, b.getLsbD 0] := rfl

theorem bitOf_eq_bit (b : Bool) : bitOf b = bit b := rfl

/-- Eight bits, most significant first, make the byte whose bits they are (R169). -/
theorem u8_of_bits (b : Byte) :
    u8 (128 * bitOf (b.getLsbD 7) + 64 * bitOf (b.getLsbD 6) + 32 * bitOf (b.getLsbD 5) + 16 * bitOf (b.getLsbD 4)
      + 8 * bitOf (b.getLsbD 3) + 4 * bitOf (b.getLsbD 2) + 2 * bitOf (b.getLsbD 1) + bitOf (b.getLsbD 0)) = b := by
  have hbit (k : Nat) := bit_le_one (b.getLsbD k)
  have h0 := hbit 0; have h1 := hbit 1; have h2 := hbit 2; have h3 := hbit 3
  have h4 := hbit 4; have h5 := hbit 5; have h6 := hbit 6; have h7 := hbit 7
  refine BitVec.eq_of_getLsbD_eq fun k hk => u8_getLsbD hk ?_
  simp only [bitOf_eq_bit]
  interval_cases k <;> omega

theorem bytesOfBits_msbFirst (b : Byte) (rest : List Bool) : bytesOfBits (msbFirst b ++ rest) = b :: bytesOfBits rest := by
  rw [msbFirst_eq]
  simp only [List.cons_append, List.nil_append, bytesOfBits]
  rw [u8_of_bits]

theorem bytesOfBits_short {l : List Bool} (h : l.length < 8) : bytesOfBits l = [] := by
  unfold bytesOfBits
  split
  · simp at h
    omega
  · rfl

theorem bytesOfBits_flatMap (bytes : List Byte) {extra : List Bool} (h : extra.length < 8) :
    bytesOfBits (bytes.flatMap msbFirst ++ extra) = bytes := by
  induction bytes with
  | nil => exact bytesOfBits_short h
  | cons b rest ih => rw [List.flatMap_cons, List.append_assoc, bytesOfBits_msbFirst, ih]

/-! ### The CRC -/

/-- The CRC register after one more bit (R172). -/
def crcBit (r : Byte) (b : Bool) : Byte := if (r.msb != b) = true then (r <<< 1) ^^^ 0x07 else r <<< 1

/-- A byte added to the register at once meets each shift as its bit does when it is added by itself. -/
theorem crcShift_xor (r x : Byte) : crcShift (r ^^^ x) = crcBit r x.msb ^^^ (x <<< 1) := by
  unfold crcShift crcBit
  rw [BitVec.msb_xor, BitVec.shiftLeft_xor_distrib]
  split
  · rw [BitVec.xor_assoc, BitVec.xor_comm (x <<< 1), ← BitVec.xor_assoc]
  · rfl

theorem crcByte_eq_bits (r b : Byte) : crcByte r b = (msbFirst b).foldl crcBit r := by
  have hshift (k : Nat) : (b <<< k) <<< 1 = b <<< (k + 1) := (BitVec.shiftLeft_add b k 1).symm
  have hmsb (k : Nat) (hk : k < 8) : (b <<< k).msb = b.getLsbD (7 - k) := by
    rw [BitVec.msb_eq_getLsbD_last, BitVec.getLsbD_shiftLeft]
    simp
    omega
  have hzero : b <<< 8 = 0#8 := BitVec.shiftLeft_eq_zero (le_refl 8)
  have h0 : r ^^^ b = r ^^^ b <<< 0 := by rw [BitVec.shiftLeft_zero]
  rw [crcByte, h0]
  simp only [crcShift_xor, hshift]
  rw [hmsb 0 (by decide), hmsb 1 (by decide), hmsb 2 (by decide), hmsb 3 (by decide), hmsb 4 (by decide), hmsb 5 (by decide),
    hmsb 6 (by decide), hmsb 7 (by decide), hzero, BitVec.xor_zero]
  rfl

theorem crc8_eq_bits (bytes : List Byte) : crc8 bytes = (bytes.flatMap msbFirst).foldl crcBit 0 := by
  rw [List.foldl_flatMap, crc8]
  congr 1
  funext r b
  exact crcByte_eq_bits r b

/-- Settles O12: a byte is made of its eight bits, and the register takes a byte as it takes them. -/
theorem bytesAndCrcAreBitSerial : Obligations.BytesAndCrcAreBitSerial :=
  ⟨fun bytes _ h => bytesOfBits_flatMap bytes h, crc8_eq_bits⟩

/-! ### The close of a window -/

/-- The link closed, with each clause as R173 gives it. -/
theorem Link.closed_eq (l : Link) (w : Window) (n : Nat) : l.closed w n =
    { queue := if w.rdy = true ∧ w.frame.length + 1 ≤ n then l.queue.tail else l.queue
      refusal := l.refusal
      fault := if w.fault = true ∧ 1 ≤ n then false else l.fault
      window := .idle } := by
  simp only [Link.closed, Window.consumes, Window.showedFault, Bool.and_eq_true, decide_eq_true_eq]
  congr 1
  by_cases h : w.fault = true ∧ 1 ≤ n
  · simp [h.1, h.2]
  · have hshowed : (w.fault && decide (1 ≤ n)) = false := by simpa using h
    rw [if_neg h, hshowed, Bool.not_false, Bool.and_true]

/-- A frame is good exactly where its length is in range and its CRC is that of its bytes (R172, step 5 of R173). -/
theorem parseFrame_eq_some_iff {len tag code : Byte} {rest payload : List Byte} :
    parseFrame len rest = some (tag, code, payload) ↔ 4 ≤ len.toNat ∧ len.toNat ≤ 39 ∧ rest.length = len.toNat
      ∧ rest = tag :: code :: payload ++ [crc8 (tag :: code :: payload)] := by
  constructor
  · intro h
    unfold parseFrame at h
    split at h
    · next hlen =>
      split at h
      · next t c more =>
        split at h
        · next hcrc =>
          cases h
          have hmore := List.dropLast_append_getLast? _ hcrc
          obtain ⟨h1, h2, h3⟩ := hlen
          exact ⟨h1, h2, h3, by rw [List.cons_append, List.cons_append, hmore]⟩
        · cases h
      · cases h
    · cases h
  · rintro ⟨h1, h2, h3, rfl⟩
    have hlen := h3
    simp only [List.length_append, List.length_cons, List.length_nil] at hlen
    have hin : 4 ≤ len.toNat ∧ len.toNat ≤ 39 ∧ payload.length + 1 + 1 + 1 = len.toNat := ⟨h1, h2, hlen⟩
    simp [parseFrame, hin]

/-- A window closed with a bad frame (step 5 of R173). -/
theorem State.closeWindow_of_bad {s : State} {w : Window} {len : Byte} {rest : List Byte} (h : len ≠ 0)
    (hbad : parseFrame len rest = none) : s.closeWindow w (len :: rest) =
      .next (((s.setLink (s.link.closed w (rest.length + 1))).setLink
        { s.link.closed w (rest.length + 1) with fault := true }).raise .linkFault) := by
  simp only [State.closeWindow, if_neg h, hbad, List.length_cons, State.setLink_link]

/-- A window closed with a good frame (R173, R174). -/
theorem State.closeWindow_of_good {s : State} {w : Window} {len tag code : Byte} {rest payload : List Byte} (h : len ≠ 0)
    (hgood : parseFrame len rest = some (tag, code, payload)) : s.closeWindow w (len :: rest) =
      exec (decodeRequest code tag payload) (s.setLink (s.link.closed w (rest.length + 1))) := by
  rw [← takeRequest_eq_exec (requestTag_decodeRequest code tag payload)]
  simp only [State.closeWindow, if_neg h, hgood, List.length_cons]

theorem exec_windowClose_inProgress {s : State} (hr : s.rstn = .high) {w : Window} (hw : s.link.window = .inProgress w)
    (mosi : List Bool) : exec (.windowClose mosi) s = s.closeWindow w (bytesOfBits mosi) := by
  simp [exec, execWindowClose, hr, hw]

theorem exec_windowClose_other {s : State} (hr : s.rstn = .high) (hw : ∀ w, s.link.window ≠ .inProgress w)
    (mosi : List Bool) : exec (.windowClose mosi) s = .next s.endWait := by
  cases hs : s.link.window with
  | inProgress w => exact absurd hs (hw w)
  | _ => simp [exec, execWindowClose, hr, hs]

theorem exec_csnRiseAfterReset {s : State} (hr : s.rstn = .high) : exec .csnRiseAfterReset s = .next s.endWait := by
  simp [exec, execCsnRiseAfterReset, hr]

theorem State.endWait_of_await {s : State} (h : s.link.window = .awaitRise) :
    s.endWait = s.setLink { s.link with window := .idle } := if_pos h

theorem State.endWait_of_not_await {s : State} (h : s.link.window ≠ .awaitRise) : s.endWait = s := if_neg h

/-- Settles O11: the steps of R173 in order, and a rise of CSn without a window. -/
theorem windowCloseFollowsTheSteps : Obligations.WindowCloseFollowsTheSteps := by
  refine ⟨fun s w mosi hr hw => ?_, fun s mosi hr => ⟨fun hw => ?_, fun hw => ?_, fun hw => ?_⟩⟩
  · intro bytes closed
    have hclosed : closed = s.setLink (s.link.closed w bytes.length) := by rw [Link.closed_eq]; rfl
    have hexec : exec (.windowClose mosi) s = s.closeWindow w bytes := exec_windowClose_inProgress hr hw mosi
    rw [hexec]
    clear_value closed bytes
    subst hclosed
    refine ⟨fun h => ?_, fun rest h => ?_, fun len rest h h0 hbad => ?_, fun len tag code payload h hlen h1 h2 => ?_⟩ <;> subst h
    · rfl
    · rfl
    · have hparse : parseFrame len rest = none := Option.eq_none_iff_forall_ne_some.mpr fun ⟨tag, code, payload⟩ hp =>
        hbad ⟨tag, code, payload, parseFrame_eq_some_iff.mp hp⟩
      rw [State.closeWindow_of_bad h0 hparse]
      rfl
    · have h0 : len ≠ 0 := fun e => by rw [e] at hlen; simp at hlen
      have hparse : parseFrame len (tag :: code :: payload ++ [crc8 (tag :: code :: payload)]) = some (tag, code, payload) := by
        refine parseFrame_eq_some_iff.mpr ⟨by omega, by omega, ?_, rfl⟩
        simp [hlen]
      exact State.closeWindow_of_good h0 hparse
  · have hnot (w : Window) : s.link.window ≠ .inProgress w := by rw [hw]; exact nofun
    rw [exec_csnRiseAfterReset hr, exec_windowClose_other hr hnot, State.endWait_of_await hw]
    exact ⟨rfl, rfl⟩
  · rw [exec_csnRiseAfterReset hr, State.endWait_of_not_await hw]
  · rw [exec_windowClose_other hr (fun w => by rw [hw]; exact nofun), State.endWait_of_not_await (by rw [hw]; exact nofun)]

/-! ### The beginning of a window -/

theorem queueField_lt {sweep rdy : Bool} {n : Nat} (h : n ≤ 4) : queueField sweep rdy n < 8 := by
  unfold queueField
  split <;> omega

theorem levelBit_eq_bit (v : Level) : levelBit v = bit (v == .high) := by cases v <;> rfl

/-- The fields of the status byte (R170, R182). -/
theorem statusByte_fields {sweep rdy refused fault quiesced : Bool} {n : Nat} (h : n ≤ 4) (attn : Level) :
    let b := statusByte sweep rdy n refused fault attn quiesced
    b.getLsbD 7 = sweep ∧ b.toNat / 16 % 8 = queueField sweep rdy n ∧ b.getLsbD 3 = refused ∧ b.getLsbD 2 = fault
      ∧ (b.getLsbD 1 = (attn == .high)) ∧ b.getLsbD 0 = quiesced := by
  have hq := queueField_lt (sweep := sweep) (rdy := rdy) h
  have h0 := bit_le_one sweep; have h1 := bit_le_one refused; have h2 := bit_le_one fault
  have h3 := bit_le_one (attn == .high); have h4 := bit_le_one quiesced
  simp only [statusByte, levelBit_eq_bit]
  refine ⟨u8_getLsbD (by decide) (by omega), ?_, u8_getLsbD (by decide) (by omega), u8_getLsbD (by decide) (by omega),
    u8_getLsbD (by decide) (by omega), u8_getLsbD (by decide) (by omega)⟩
  rw [u8, BitVec.toNat_ofNat]
  omega

theorem queueField_eq (sweep rdy : Bool) (n : Nat) :
    queueField sweep rdy n = if sweep = true ∧ rdy = true then n + 3 else n := by
  simp only [queueField, Bool.and_eq_true]

/-- RDY is shown where the head entry is filled (R170). -/
theorem Link.headFrame_isSome_iff {l : Link} :
    l.headFrame.isSome = true ↔ ∃ e r rest, l.queue = e :: rest ∧ e.reply = some r := by
  constructor
  · intro h
    obtain ⟨f, hf⟩ := Option.isSome_iff_exists.mp h
    obtain ⟨t, r, rest, hq, -⟩ := Link.headFrame_eq_some hf
    exact ⟨_, r, rest, hq, rfl⟩
  · rintro ⟨⟨t, reply⟩, r, rest, hq, rfl⟩
    simp [Link.headFrame, hq]

theorem exec_windowStart_idle {s : State} (hr : s.rstn = .high) (hw : s.link.window = .idle) :
    exec .windowStart s = .next (s.setLink { s.link with window := .inProgress s.openWindow }) := by
  simp [exec, execWindowStart, hr, hw]

theorem exec_windowStart_other {s : State} (hr : s.rstn = .high) (hw : s.link.window ≠ .idle) :
    exec .windowStart s = .next s := by
  simp [exec, execWindowStart, hr, hw]

/-- Settles O10: the status byte's fields, and MISO as the window's bytes stand. -/
theorem windowStartFormsTheStatusByte : Obligations.WindowStartFormsTheStatusByte := by
  unfold Obligations.WindowStartFormsTheStatusByte
  intro code s hr
  refine ⟨fun hw hlen => ⟨s.openWindow, _, exec_windowStart_idle hr hw, rfl, ?_⟩, exec_windowStart_other hr⟩
  obtain ⟨h7, hqueue, h3, h2, h1, h0⟩ := statusByte_fields (sweep := s.sweeping) (rdy := s.link.headFrame.isSome)
    (refused := s.link.refusal) (fault := s.link.fault) (quiesced := s.quiesced) hlen s.attention.attn
  refine ⟨Link.headFrame_isSome_iff, rfl, h7, hqueue.trans (queueField_eq _ _ _), h3, h2, ?_, h0, fun hrdy => ?_,
    fun e r rest hq he => ?_, fun k => rfl, fun k j hj => ?_⟩
  · exact (Bool.eq_iff_iff.mp h1).trans beq_iff_eq
  · have hnone : s.link.headFrame = none := Option.isNone_iff_eq_none.mp (Option.isSome_eq_false_iff.mp hrdy)
    simp [State.openWindow, hnone]
  · obtain ⟨tag, reply⟩ := e
    obtain rfl : reply = some r := he
    simp only [State.openWindow, Link.headFrame, hq]
    cases hresult : r.result <;> simp [responseFrame, resultByte, hresult, u8, code]
  · have hbyte : (8 * k + j) / 8 = k := by omega
    have hbit : (8 * k + j) % 8 = j := by omega
    rw [State.misoBit, hbyte, hbit]
    rfl

end Sys2Proof.Machine
end

section
/-! PROOF. The queue of commands, the part's own clocks, and the resets (R23, R24, R41, R79, R179, R180). -/

namespace Sys2Proof.Machine

/-! ### The front of the queue, and an empty queue -/

/-- Settles O1: the front command's arm of `step`. -/
theorem stepTakesTheFrontCommand : Obligations.StepTakesTheFrontCommand := by
  intro s c rest h
  simp [step, h]

/-- What the part takes on its own is what has come about by itself. -/
theorem State.mem_ownCommands_iff_comesDue {s : State} {c : Instr} : c ∈ s.ownCommands ↔ s.comesDue c := by
  rw [State.mem_ownCommands]
  constructor
  · rintro (⟨x, hx, rfl⟩ | ⟨rfl, h⟩)
    · exact State.mem_outstanding.mp hx
    · exact h
  · intro h
    rcases State.comesDue_cases h with rfl | ⟨x, rfl⟩
    · exact .inr ⟨rfl, h⟩
    · exact .inl ⟨x, State.mem_outstanding.mpr h, rfl⟩

theorem Channel.period_of_burst {c : Channel} {q : Fin 4} {h : Handle} {p : Level} {k n hi lo : Nat}
    (hs : c.state = .burst q h p k n hi lo) : c.period = { c with state := .burst q h p (k - 1) n hi lo } := by
  simp [Channel.period, hs]

theorem Channel.period_of_no_burst {c : Channel} (h : ∀ q k p n m hi lo, c.state ≠ .burst q k p n m hi lo) :
    c.period = c := by
  unfold Channel.period
  split
  · next hs => exact absurd hs (h _ _ _ _ _ _ _)
  · rfl

theorem State.refclkPeriod_of_high {s : State} (h : s.rstn = .high) : s.refclkPeriod =
    (s.setTime { s.time with grainPhase := min (s.time.grainPhase + 1) s.time.divisor }).setChannels
      (s.channels.map Channel.period) := by simp [State.refclkPeriod, h]

/-- Settles O2: the command that `ownCommand` picks, or one period. -/
theorem emptyQueueRunsThePartsOwnClocks : Obligations.EmptyQueueRunsThePartsOwnClocks := by
  intro s hp
  have hstep := step_empty hp
  refine ⟨fun hr => ?_, fun hr ⟨c, hc⟩ => ?_, fun hr hnone => ?_⟩
  · have hown : s.ownCommand = none := by simp [State.ownCommand, hr]
    rw [hstep, hown]
    simp [State.refclkPeriod, hr]
  · rcases s.ownCommand_cases with ⟨d, hd, -, hmem⟩ | ⟨-, hlow | hempty⟩
    · rw [hd] at hstep
      exact ⟨d, State.mem_ownCommands_iff_comesDue.mp hmem, hstep⟩
    · rw [hr] at hlow
      cases hlow
    · rw [← State.mem_ownCommands_iff_comesDue, hempty] at hc
      cases hc
  · have hown : s.ownCommand = none := by
      rcases s.ownCommand_cases with ⟨d, -, -, hmem⟩ | ⟨h, -⟩
      · exact absurd (State.mem_ownCommands_iff_comesDue.mp hmem) (hnone d)
      · exact h
    rw [hown] at hstep
    have hgrain : ¬ s.time.divisor ≤ s.time.grainPhase := hnone .grainTick
    have hphase : min (s.time.grainPhase + 1) s.time.divisor = s.time.grainPhase + 1 := by omega
    rw [State.refclkPeriod_of_high hr, hphase] at hstep
    refine ⟨_, hstep, rfl, fun c => ⟨fun q h p k n hi lo hs => ?_, fun hs => ?_⟩⟩
    · simp only [State.setChannels_channels, Fin.getElem_fin, Vector.getElem_map]
      exact Channel.period_of_burst hs
    · simp only [State.setChannels_channels, Fin.getElem_fin, Vector.getElem_map]
      exact Channel.period_of_no_burst hs

/-! ### The reset state -/

theorem State.reset_values : AtResetValues State.reset .low .low .low .high (fun _ => .low) := by
  have hsenses : State.reset.senses = (Vector.replicate 8 Level.low).map SenseInput.initial := by
    rw [Vector.map_replicate]
    rfl
  have hvalues := State.reset.resetBlocks_initial_values
    { enca := .low, encb := .low, encz := .low, quiescen := .high, csn := .high, sen := .replicate 8 .low } State.reset.link
  have hsen : (fun n : SenseIx => (Vector.replicate 8 Level.low)[n]) = fun _ => .low := by
    funext n
    simp
  rw [← hsen]
  exact hvalues.of_blocks rfl rfl rfl hsenses rfl rfl rfl

theorem State.reset_freshlyReset : FreshlyReset State.reset where
  values := ⟨_, _, _, _, _, State.reset_values⟩
  capacity := Nat.zero_le _
  filled := nofun
  window := nofun

/-- Settles O3: the tabled values, field by field. -/
theorem resetHoldsTheTabledValues : Obligations.ResetHoldsTheTabledValues := by
  refine ⟨State.reset_values, fun i => ?_, rfl, ?_, rfl, rfl, rfl, ?_⟩
  · change (ActionTable.initial.slot i).gen = 0
    rw [ActionTable.initial_slot]
    rfl
  · have hfree (i : SlotIx) : State.reset.table.recordAt i = none := State.reset_values.no_record i
    simp [ActionTable.freeCount, ActionTable.freeSlots, hfree]
  · simp [State.reset, Attention.attn, Attention.initial, CauseState.initial]

/-- Settles O4: every invariant holds where the tabled values do. -/
theorem resetMeetsEveryInvariant : Obligations.ResetMeetsEveryInvariant :=
  ⟨collectionsExact_blockInvariant.reset State.reset_values, liveCountsExact_blockInvariant.reset State.reset_values,
    sweepConsistent_blockInvariant.reset State.reset_values, groupsConsistent_blockInvariant.reset State.reset_values,
    homingExclusive_blockInvariant.reset State.reset_values, levelsReported_blockInvariant.reset State.reset_values,
    quiesceInvariant_blockInvariant.reset State.reset_values, linesAgree_blockInvariant.reset State.reset_values,
    State.reset_freshlyReset.linkConsistent, timeDueInvariant_blockInvariant.reset State.reset_values⟩

/-! ### Hardware resets -/

theorem State.release_afterHardwareReset (s : State) (l : Lines) : AfterHardwareReset s (s.release l) l where
  values := s.release_values l
  generations i := by
    change (ActionTable.initial.slot i).gen = 0
    rw [ActionTable.initial_slot]
    rfl
  link := rfl
  rstn := rfl
  kept := ⟨rfl, rfl⟩

/-- With every flag clear ATTN is LOW (R167). -/
theorem AtResetValues.attn {t : State} {a b z q : Level} {sen : SenseIx → Level} (h : AtResetValues t a b z q sen) :
    t.attention.attn = .low := by
  by_contra hne
  have hhigh : t.attention.attn = .high := by
    cases he : t.attention.attn with
    | low => exact absurd he hne
    | high => rfl
  obtain ⟨c, hpending, -⟩ := t.attention.attn_eq_high_iff_cause.mp hhigh
  rw [Attention.cause, h.attention.1] at hpending
  cases hpending

theorem State.hold_heldInReset (s : State) (l : Lines) : HeldInReset s (s.hold l) where
  rstn := rfl
  link := rfl
  lines c := by rw [(s.hold_values l).channels c]
  attn := (s.hold_values l).attn
  quiesced := rfl
  free := (s.hold_values l).no_record
  kept := ⟨rfl, rfl⟩

/-- Nothing but a reset's end or power-on is taken while RSTn is low (R41, R180). -/
theorem exec_of_rstn_low {s : State} (h : s.rstn = .low) {c : Instr} (hlow : c ≠ .rstnLow) (hhigh : ∀ l, c ≠ .rstnHigh l)
    (hpower : ∀ v l, c ≠ .powerOn v l) : exec c s = .next s := by
  by_cases hrequest : ∃ tag, requestTag c = some tag
  · obtain ⟨tag, htag⟩ := hrequest
    rcases exec_request htag with ⟨claim, he, -⟩ | ⟨p, rfl⟩ | rfl
    · rw [he, s.submit_low tag claim h]
    · rw [exec_tableClear, State.submitEntry, if_pos h]
    · rw [exec_softReset_fits, if_pos h]
  have hskip (u : State) : (Host.Outcome.next (if s.rstn = .low then s else u) : Host.Outcome State Fault Refusal) = .next s := by
    rw [if_pos h]
  cases c <;> first | exact absurd ⟨_, rfl⟩ hrequest | exact hskip _ | skip
  case powerOn v l => exact absurd rfl (hpower v l)
  case rstnLow => exact absurd rfl hlow
  case rstnHigh l => exact absurd rfl (hhigh l)
  case windowClose m => simp [exec, execWindowClose, h]

/-- Settles O5: the hardware resets' values, and the part held. -/
theorem resetsRestoreEveryBlock : Obligations.ResetsRestoreEveryBlock := by
  refine ⟨fun s l => ⟨⟨_, rfl, s.release_afterHardwareReset l⟩, fun hr => ?_, fun hr => ?_⟩,
    fun s => ⟨_, rfl, s.hold_heldInReset _⟩, fun s l => ⟨_, rfl, s.hold_heldInReset l⟩,
    fun s c h hlow hhigh hpower => exec_of_rstn_low h hlow hhigh hpower⟩
  · refine ⟨s.release l, ?_, s.release_afterHardwareReset l⟩
    simp [exec, execRstnHigh, hr]
  · simp [exec, execRstnHigh, hr]

/-! ### SOFT_RESET -/

theorem exec_softReset_unfit {s : State} (h : s.accepts) (tag : Byte) :
    exec (.softReset tag .unfit) s = .next (s.answered tag .badField []) :=
  exec_of_refuse h (claim := fun s => refuse s .badField) rfl rfl

theorem State.presentEncz_of_low {s : State} (h : s.time.encZ = .low) : s.presentEncz = .low := by
  simp [State.presentEncz, h]

/-- Settles O6: the reset values at the lines as they stand, and each slot's generation. -/
theorem softResetRestoresEveryBlock : Obligations.SoftResetRestoresEveryBlock := by
  intro s tag h
  refine ⟨⟨s.softReset tag, s.presentEncz, exec_softReset_accepted h tag, State.presentEncz_of_low, ?_, fun i => ?_, rfl, h.1, rfl,
    rfl⟩, exec_softReset_unfit h tag⟩
  · have hsen : (fun n : SenseIx => s.presentLines.sen[n]) = fun n => (s.senses[n]).lineRef := by
      funext n
      simp [State.presentLines]
    rw [← hsen]
    exact s.softReset_values tag
  · change (s.table.softReset.slot i).gen = _
    rw [ActionTable.softReset_slot, Slot.softReset, ActionTable.recordAt]
    simp only [Bool.or_eq_true, Option.isSome_iff_ne_none]

end Sys2Proof.Machine
end

section
/-! PROOF. The timebases (chapter 2): the grain tick, encoder steps and faults, index edges, and the requests that set their
items. -/

namespace Sys2Proof.Machine

/-! ### Happenings taken leave the timebases -/

theorem State.takeHappening_time (s : State) (x : Happening) : (s.takeHappening x).time = s.time := by
  cases x with
  | claim y => exact (State.foldl_fallDueAt_sameBut (s.claimSlots y) s).1
  | pulseEnd => rfl
  | phaseChange => rfl

theorem State.settle_time (s : State) (l : List Happening) : (s.settle l).time = s.time := by
  have hfold : ∀ (l : List Happening) (s : State), (l.foldl State.takeHappening s).time = s.time := by
    intro l
    induction l with
    | nil => exact fun _ => rfl
    | cons x rest ih => exact fun s => (ih _).trans (s.takeHappening_time x)
  exact hfold _ _

theorem State.settle_rstn (s : State) (l : List Happening) : (s.settle l).rstn = s.rstn :=
  (State.foldl_takeHappening_keepsLink _ _).rstn

/-! ### The grain tick -/

theorem State.passPeriods_eq_iterate (n : Nat) (s : State) : State.passPeriods n s = State.passPeriod^[n] s := by
  induction n generalizing s with
  | zero => rfl
  | succ n ih => rw [State.passPeriods, ih, Function.iterate_succ_apply]

theorem State.passPeriod_time {s : State} (h : s.rstn = .high) :
    s.passPeriod.time = { s.time with grainPhase := min (s.time.grainPhase + 1) s.time.divisor } := by
  have hr : s.settleAll.rstn = .high := (s.settle_rstn _).trans h
  have ht : s.settleAll.time = s.time := s.settle_time _
  rw [State.passPeriod, State.refclkPeriod_of_high hr, State.setChannels_time, State.setTime_time, ht]

theorem State.passPeriod_rstn (s : State) : s.passPeriod.rstn = s.rstn :=
  (State.refclkPeriod_keepsLink _).rstn.trans (s.settle_rstn _)

theorem State.passPeriods_succ (n : Nat) (s : State) : State.passPeriods (n + 1) s = (State.passPeriods n s).passPeriod :=
  State.passPeriods_add n 1 s

theorem State.passPeriods_rstn (n : Nat) (s : State) : (State.passPeriods n s).rstn = s.rstn := by
  induction n with
  | zero => rfl
  | succ n ih => rw [State.passPeriods_succ, State.passPeriod_rstn, ih]

/-- The periods that a grain still lacks make it older and move nothing else of the timebases (R24). -/
theorem State.passPeriods_time {s : State} (h : s.rstn = .high) {n : Nat} (hn : s.time.grainPhase + n ≤ s.time.divisor) :
    (State.passPeriods n s).time = { s.time with grainPhase := s.time.grainPhase + n } := by
  induction n with
  | zero => rfl
  | succ n ih =>
    have hphase : min (s.time.grainPhase + n + 1) s.time.divisor = s.time.grainPhase + (n + 1) := by omega
    rw [State.passPeriods_succ, State.passPeriod_time ((s.passPeriods_rstn n).trans h), ih (by omega), hphase]

theorem exec_grainTick {s : State} (h : s.rstn = .high) : exec .grainTick s = .next s.restOfGrain.settleTick.tickAll := by
  simp [exec, execGrainTick, h]

theorem Channel.tick_of_pulse {c : Channel} {q : Fin 4} {h : Handle} {g : Nat} (hs : c.state = .pulse q h g) :
    c.tick = { c with state := .pulse q h (g - 1) } := by simp [Channel.tick, hs]

theorem Channel.tick_of_no_pulse {c : Channel} (h : ∀ q k g, c.state ≠ .pulse q k g) : c.tick = c := by
  unfold Channel.tick
  split
  · next hs => exact absurd hs (h _ _ _)
  · rfl

theorem State.tickAll_sense (s : State) (n : SenseIx) :
    s.tickAll.senses[n] = { s.senses[n] with gapTracker := (s.senses[n]).gapTracker.map (fun e => min 65535 (e + 1)) } := by
  simp only [State.tickAll, State.setSenses_senses, Fin.getElem_fin, Vector.getElem_map]
  rfl

/-- A claim that has come about has a record that is due (R42, R43). -/
theorem State.exists_due_of_claim {s : State} {d : Domain} {x : Happening} (h : s.claimComesDue d x) :
    ∃ i r due, s.table.recordAt i = some r ∧ r.phase = .armed due ∧ r.what.base.domain = d
      ∧ s.time.reached r.what.base due := by
  obtain ⟨y, rfl⟩ := State.claimComesDue_cases h
  cases y with
  | channel e c =>
    obtain ⟨⟨i, r, due, a, hr, hp, -, hd, hdue⟩, rfl⟩ := h
    exact ⟨i, r, due, hr, hp, hd, hdue⟩
  | mark i =>
    obtain ⟨⟨r, due, hr, hp, -, hdue⟩, q, hq, hd⟩ := h
    obtain rfl := Option.some.inj (hr.symm.trans hq)
    exact ⟨i, r, due, hr, hp, hd, hdue⟩

/-- Where no TIME claim and no pulse end is outstanding, nothing is taken before the tick. -/
theorem State.settleTick_of_none {s : State}
    (hclaims : ∀ i r due, s.table.recordAt i = some r → r.phase = .armed due → r.what.base = .time → due ≠ s.time.tbT)
    (hpulses : ∀ (c : ChannelIx) q h, (s.channels[c]).state ≠ .pulse q h 0) : s.settleTick = s := by
  have hnone : (s.dueClaims .time).map Happening.claim ++ s.duePulseEnds.map Happening.pulseEnd = [] := by
    refine List.eq_nil_iff_forall_not_mem.mpr fun x hx => ?_
    rcases State.mem_tickHappenings.mp hx with h | ⟨c, rfl, q, k, h⟩
    · obtain ⟨i, r, due, hr, hp, hb, hdue⟩ := State.exists_due_of_claim h
      have hb : r.what.base = .time := (Base.domain_eq_time_iff _).mp hb
      rw [hb] at hdue
      exact hclaims i r due hr hp hb hdue
    · exact hpulses c q k h
  rw [State.settleTick, hnone, State.settle_nil]

/-- The tick at its three consumers (R24, R26, R73, R112). -/
theorem State.tickAll_effects (u : State) :
    u.tickAll = { u with time := u.tickAll.time, channels := u.tickAll.channels, senses := u.tickAll.senses }
    ∧ u.tickAll.time = { u.time with grainPhase := 0, tbT := if u.time.running = true then u.time.tbT + 1 else u.time.tbT }
    ∧ (∀ c : ChannelIx,
        (∀ q h g, (u.channels[c]).state = .pulse q h g →
          u.tickAll.channels[c] = { u.channels[c] with state := .pulse q h (g - 1) })
        ∧ ((∀ q h g, (u.channels[c]).state ≠ .pulse q h g) → u.tickAll.channels[c] = u.channels[c]))
    ∧ ∀ n : SenseIx, u.tickAll.senses[n] =
        { u.senses[n] with gapTracker := (u.senses[n]).gapTracker.map (fun e => min 65535 (e + 1)) } := by
  refine ⟨rfl, rfl, fun c => ⟨fun q h g hs => ?_, fun hs => ?_⟩, u.tickAll_sense⟩
  · rw [State.tickAll_channel, Channel.tick_of_pulse hs]
  · rw [State.tickAll_channel, Channel.tick_of_no_pulse hs]

/-- Settles O17: the periods that pass, what is taken before the tick, and its three consumers. -/
theorem grainTickAdvancesAndCounts : Obligations.GrainTickAdvancesAndCounts := by
  intro s hr
  refine ⟨⟨_, exec_grainTick hr, State.tickAll_effects _⟩, State.passPeriods_eq_iterate _ s, fun hphase => ⟨?_, State.settle_time _ _⟩,
    State.settleTick_of_none⟩
  have htime := State.passPeriods_time hr (n := s.time.divisor - s.time.grainPhase) (by omega)
  rw [Nat.add_sub_cancel' hphase] at htime
  exact htime

/-! ### The encoder -/

theorem State.settleStep_of_none {s : State}
    (hclaims : ∀ i r e due, s.table.recordAt i = some r → r.phase = .armed due → r.what.base = .position e →
      s.time.lastDir = some e → due ≠ s.time.tbP) : s.settleStep = s := by
  have hnone : (s.dueClaims .position).map Happening.claim = [] := by
    refine List.eq_nil_iff_forall_not_mem.mpr fun x hx => ?_
    obtain ⟨i, r, due, hr, hp, hb, hdue⟩ := State.exists_due_of_claim (State.mem_map_dueClaims.mp hx)
    cases hbase : r.what.base with
    | time => rw [hbase] at hb; cases hb
    | position e =>
      rw [hbase] at hdue
      exact hclaims i r e due hr hp hbase hdue.2 hdue.1
  rw [State.settleStep, hnone, State.settle_nil]

theorem exec_encoderStep {s : State} (h : s.rstn = .high) (d : Dir) :
    exec (.encoderStep d) s = .next (s.settleStep.setTime (s.settleStep.time.step d)) := by
  simp [exec, execEncoderStep, h]

/-- Settles O19: the step of the decoder, at the reference pair given. -/
theorem encoderStepMovesTbP : Obligations.EncoderStepMovesTbP := by
  intro s d hr u
  refine ⟨⟨(nextPair d (u.time.encA, u.time.encB)).1, (nextPair d (u.time.encA, u.time.encB)).2, ?_, ?_⟩,
    State.settleStep_of_none⟩
  · rw [exec_encoderStep hr]
    cases d <;> rfl
  · refine ⟨fun h => ?_, fun h => ?_, fun h => ?_, fun h => ?_⟩ <;> rw [h] <;> cases d <;> rfl

/-- A happening with RSTn high (R180). -/
theorem next_of_rstn_high {s : State} (h : s.rstn = .high) (u : State) :
    (Host.Outcome.next (if s.rstn = .low then s else u) : Host.Outcome State Fault Refusal) = .next u := by
  rw [h, if_neg (by decide)]

/-- Settles O20: the arms of the two commands. -/
theorem encoderFaultsAndIndexEdges : Obligations.EncoderFaultsAndIndexEdges :=
  ⟨fun _ hr => next_of_rstn_high hr _, fun _ hr => ⟨fun hh => (next_of_rstn_high hr _).trans (congrArg _ (if_pos hh)),
    fun hh => (next_of_rstn_high hr _).trans (congrArg _ (if_neg (by rw [hh]; decide)))⟩⟩

/-! ### Requests to the timebases -/

/-- A record waits in a domain exactly where the table says so (R25, R29, R35, R39). -/
theorem State.hasWaiting_iff (s : State) (d : Domain) : s.hasWaiting d ↔ s.table.anyWaiting d = true := by
  rw [← Bool.not_eq_false, ActionTable.anyWaiting_eq_false, State.hasWaiting]
  simp only [not_forall, exists_prop, Bool.not_eq_false, ActionRecord.waitsIn_iff]
  refine exists_congr fun i => exists_congr fun r => ?_
  constructor
  · rintro ⟨due, hr, hd, hp | hp⟩ <;> exact ⟨hr, by simp [hp, Phase.isArmed, Phase.isSuspended], hd⟩
  · rintro ⟨hr, hp, hd⟩
    cases hphase : r.phase with
    | armed due => exact ⟨due, hr, hd, .inl rfl⟩
    | suspended due => exact ⟨due, hr, hd, .inr rfl⟩
    | _ => simp [hphase, Phase.isArmed, Phase.isSuspended] at hp

/-- A request that sets one item of the timebases, with its pad byte (R27, R28, R38). -/
theorem exec_timeItem {s : State} (h : s.accepts) {c : PadOnly → Instr} {tag : Byte} {item : Timebases → Timebases}
    (hexec : ∀ p, exec (c p) s =
      .next (s.submit tag (fun s => withPad p s (fun s => answer (s.setTime (item s.time)) [])))) :
    exec (c (.fits ())) s = .next ((s.setTime (item s.time)).answered tag .ok [])
    ∧ exec (c .unfit) s = .next (s.answered tag .badField []) :=
  ⟨exec_of_answer h (hexec _) rfl, exec_of_refuse h (hexec _) rfl⟩

theorem setTClaim_waiting {s : State} (h : s.hasWaiting .time) (v : Word) : setTClaim v s = refuse s .state :=
  if_pos ((s.hasWaiting_iff _).mp h)

theorem setTClaim_free {s : State} (h : ¬ s.hasWaiting .time) (v : Word) :
    setTClaim v s = answer (s.setTime { s.time with tbT := v }) [] := if_neg fun e => h ((s.hasWaiting_iff _).mpr e)

theorem homePClaim_waiting {s : State} (h : s.hasWaiting .position) (v : Word) : homePClaim v s = refuse s .state :=
  if_pos ((s.hasWaiting_iff _).mp h)

theorem homePClaim_free {s : State} (h : ¬ s.hasWaiting .position) (v : Word) :
    homePClaim v s = answer (s.setTime { s.time with homing := true, homeValue := v }) [] :=
  if_neg fun e => h ((s.hasWaiting_iff _).mpr e)

theorem setPClaim_stopped {s : State} (h : s.hasWaiting .position ∨ s.time.homing = true) (v : Word) :
    setPClaim v s = refuse s .state :=
  if_pos (Bool.or_eq_true_iff.mpr (h.imp_left (s.hasWaiting_iff _).mp))

theorem setPClaim_free {s : State} (h : ¬ s.hasWaiting .position) (hh : s.time.homing = false) (v : Word) :
    setPClaim v s = answer (s.setTime { s.time with tbP := v }) [] := by
  refine if_neg fun e => ?_
  rcases Bool.or_eq_true_iff.mp e with e | e
  · exact h ((s.hasWaiting_iff _).mpr e)
  · rw [hh] at e
    cases e

/-- Settles O21: each request's claim, by its checks. -/
theorem timebaseItemsAreSet : Obligations.TimebaseItemsAreSet := by
  refine ⟨fun s tag h => ?_, fun s tag v h => ⟨⟨exec_of_refuse h rfl rfl, fun hw => ?_, fun hw => ?_⟩,
    ⟨exec_of_refuse h rfl rfl, fun hw => ?_, fun hw hh => ?_⟩, exec_of_refuse h rfl rfl, fun hw => ?_, fun hw => ?_⟩⟩
  · obtain ⟨hstart, hstart'⟩ := exec_timeItem h (c := .startT tag) (item := fun t => { t with running := true }) fun _ => rfl
    obtain ⟨hstop, hstop'⟩ := exec_timeItem h (c := .stopT tag) (item := fun t => { t with running := false }) fun _ => rfl
    obtain ⟨hcancel, hcancel'⟩ := exec_timeItem h (c := .cancelHome tag) (item := fun t => { t with homing := false }) fun _ => rfl
    exact ⟨hstart, hstop, hcancel, hstart', hstop', hcancel'⟩
  · exact exec_of_refuse h rfl (setTClaim_waiting hw v)
  · exact exec_of_answer h rfl (setTClaim_free hw v)
  · exact exec_of_refuse h rfl (setPClaim_stopped hw v)
  · exact exec_of_answer h rfl (setPClaim_free hw hh v)
  · exact exec_of_refuse h rfl (homePClaim_waiting hw v)
  · exact exec_of_answer h rfl (homePClaim_free hw v)

/-! ### SET_GRAIN -/

theorem Channel.pulsing_iff (c : Channel) : c.pulsing = true ↔ ∃ q h g, c.state = .pulse q h g := by
  unfold Channel.pulsing
  split
  · next q h g hs => exact iff_of_true rfl ⟨q, h, g, hs⟩
  · next hs => exact iff_of_false (by decide) fun ⟨q, h, g, e⟩ => hs q h g e

/-- A pulse in flight or a record that waits in TIME keeps the divisor as it is (R25). -/
def State.grainBusy (s : State) : Prop :=
  (∃ (c : ChannelIx) (q : Fin 4) (h : Handle) (g : Nat), (s.channels[c]).state = .pulse q h g) ∨ s.hasWaiting .time

theorem State.grainBusy_iff (s : State) :
    s.grainBusy ↔ (s.channels.any Channel.pulsing || s.table.anyWaiting .time) = true := by
  rw [Bool.or_eq_true, ← State.hasWaiting_iff, State.grainBusy, Vector.any_eq_true]
  refine or_congr_left ⟨fun ⟨c, hc⟩ => ⟨c, c.isLt, (Channel.pulsing_iff _).mpr hc⟩, fun ⟨i, hi, hc⟩ => ⟨⟨i, hi⟩, ?_⟩⟩
  exact (Channel.pulsing_iff _).mp hc

section
variable {n : Nat} {s : State}

theorem setGrainClaim_out_of_range (h : n = 0 ∨ 4096 < n) : setGrainClaim n s = refuse s .badField := by
  have hbad : (!(decide (1 ≤ n) && decide (n ≤ 4096))) = true := by simp; omega
  exact if_pos hbad

theorem setGrainClaim_in_range (h1 : 1 ≤ n) (h2 : n ≤ 4096) : setGrainClaim n s =
    if s.time.running = true then refuse s .state
    else if (s.channels.any Channel.pulsing || s.table.anyWaiting .time) = true then refuse s .busy
    else answer (s.setTime { s.time with divisor := n, grainPhase := 0 }) [] := by
  simp [setGrainClaim, h1, h2]

end

/-- Settles O22: the checks of SET_GRAIN one after another. -/
theorem setGrainChecksInOrder : Obligations.SetGrainChecksInOrder := by
  intro s tag n h
  refine ⟨exec_of_refuse h rfl rfl, fun hn => exec_of_refuse h rfl (setGrainClaim_out_of_range hn), fun h1 h2 =>
    ⟨fun hrun => exec_of_refuse h rfl ?_, fun hrun hbusy => exec_of_refuse h rfl ?_, fun hrun hbusy => exec_of_answer h rfl ?_⟩⟩
  · exact (setGrainClaim_in_range h1 h2).trans (if_pos hrun)
  · have hbusy : s.grainBusy := hbusy
    exact (setGrainClaim_in_range h1 h2).trans (by rw [if_neg (by simp [hrun]), if_pos (s.grainBusy_iff.mp hbusy)])
  · have hbusy : ¬ s.grainBusy := hbusy
    exact (setGrainClaim_in_range h1 h2).trans (by rw [if_neg (by simp [hrun]), if_neg (mt s.grainBusy_iff.mpr hbusy)]; rfl)

end Sys2Proof.Machine
end

section
/-! PROOF. The claims of falling due and the branches of one record (chapter 3), the ends of the actions in flight, and the two
requests about a channel (chapter 4). -/

namespace Sys2Proof.Machine

/-! ### Claims -/

theorem exec_fallingDue {s : State} (h : s.rstn = .high) (x : DueClaim) : exec (.fallingDue x) s = .next (s.takeClaim x) :=
  next_of_rstn_high h _

theorem State.firesBefore_asymm {s : State} {i j : SlotIx} (h : s.firesBefore i j) : ¬ s.firesBefore j i := by
  rintro ⟨q, r, hq, hr, h'⟩
  obtain ⟨r', q', hr', hq', h⟩ := h
  obtain rfl := Option.some.inj (hr.symm.trans hr')
  obtain rfl := Option.some.inj (hq.symm.trans hq')
  simp only [Fin.lt_def, Fin.ext_iff] at h h'
  omega

/-- The tie order leaves one order of a set of slots (R49). -/
theorem State.eq_of_firesBefore {s : State} {l l' : List SlotIx} (h : l.Pairwise s.firesBefore) (h' : l'.Pairwise s.firesBefore)
    (hmem : ∀ i, i ∈ l ↔ i ∈ l') : l = l' := by
  have hnodup : ∀ {l : List SlotIx}, l.Pairwise s.firesBefore → l.Nodup := fun hl =>
    List.Pairwise.imp (fun {i j} (hij : s.firesBefore i j) (e : i = j) => by
      subst e
      exact s.not_firesBefore_self i hij) hl
  have hperm : l.Perm l' := (List.perm_ext_iff_of_nodup (hnodup h) (hnodup h')).mpr hmem
  exact hperm.eq_of_pairwise (fun _ _ _ _ hij hji => absurd hji (State.firesBefore_asymm hij)) h h'

/-- A channel's claim takes its slots in the tie order (R49). -/
theorem State.claimSlots_channel_pairwise (s : State) (d : Domain) (c : ChannelIx) :
    (s.claimSlots (.channel d c)).Pairwise s.firesBefore :=
  State.tieOrder_pairwise ((s.table.slotsWith_pairwise _).filter _)

/-- Settles O24: the slots that the claim covers are the due ones in the tie order, and only one list is. -/
theorem channelClaimTakesTieOrder : Obligations.ChannelClaimTakesTieOrder := by
  intro s d c l hrstn hmem hl
  have hslots : s.claimSlots (.channel d c) = l :=
    State.eq_of_firesBefore (s.claimSlots_channel_pairwise d c) hl fun i =>
      State.mem_claimSlots_channel.trans (hmem i).symm
  rw [exec_fallingDue hrstn, State.takeClaim, hslots]

/-- Settles O25: a claim of a MARK covers its slot where the record is due, and nothing where it is not. -/
theorem markClaimRaisesMark : Obligations.MarkClaimRaisesMark := by
  intro s i hrstn
  constructor
  · intro r due hr hp hw hreached
    have hslots : s.claimSlots (.mark i) = [i] := State.claimSlots_mark_of_due ⟨r, due, hr, hp, hw, hreached⟩
    rw [exec_fallingDue hrstn, State.takeClaim, hslots, List.foldl_cons, List.foldl_nil, State.fallDueAt_of_armed hr hp,
      State.fallDue_of_mark hw]
    rfl
  · intro hnot
    have hslots : s.claimSlots (.mark i) = [] := State.claimSlots_mark_of_not_due fun ⟨r, due, hr, hp, hw, hreached⟩ =>
      hnot r due hr hp hw hreached
    rw [exec_fallingDue hrstn, State.takeClaim, hslots, List.foldl_nil]

/-! ### The branches of a falling due -/

/-- A firing whose verdict is not CONFLICT changes its channel only. -/
theorem State.fire_of_ne_conflict {s : State} {c : ChannelIx} {f : Firing}
    (h : ((s.channels[c]).take (s.timed f)).2 ≠ .conflict) :
    (s.fire c f).1 = s.setChannel c ((s.channels[c]).take (s.timed f)).1 := if_neg h

/-- A refused firing raises CONFLICT besides (R77). -/
theorem State.fire_of_conflict {s : State} {c : ChannelIx} {f : Firing}
    (h : ((s.channels[c]).take (s.timed f)).2 = .conflict) :
    (s.fire c f).1 = (s.setChannel c ((s.channels[c]).take (s.timed f)).1).raise .conflict := if_pos h

/-- Settles O26: each branch is an equation of the falling due, and the outcome recorded is the verdict's. -/
theorem fallingDueTakesItsBranch : Obligations.FallingDueTakesItsBranch := by
  intro s i r due c a hr hp hw
  have htimed : s.timed (s.firingOf i r a) =
      { action := s.counting a, priority := r.what.priority, handle := { slot := i, gen := (s.table.slot i).gen } } := by
    rw [State.counting_eq_timed]
    rfl
  rw [State.fallDueAt_of_armed hr hp, ← htimed]
  intro x sent
  refine ⟨fun hq => ⟨fun hv => ?_, fun hv => ?_, fun hv => ?_⟩, fun hq hm => ?_, fun hq hm => ?_⟩
  · have hfire : (s.fire c (s.firingOf i r a)).1 = sent := State.fire_of_ne_conflict (by rw [hv]; decide)
    rw [State.fallDue_of_fires hw hq, hfire, show (s.fire c (s.firingOf i r a)).2 = .fired from hv]
    rfl
  · have hfire : (s.fire c (s.firingOf i r a)).1 = sent := State.fire_of_ne_conflict (by rw [hv]; decide)
    rw [State.fallDue_of_fires hw hq, hfire, show (s.fire c (s.firingOf i r a)).2 = .merged from hv]
    rfl
  · have hfire : (s.fire c (s.firingOf i r a)).1 = { sent with attention := s.attention.raise .conflict } :=
      State.fire_of_conflict hv
    rw [State.fallDue_of_fires hw hq, hfire, show (s.fire c (s.firingOf i r a)).2 = .conflict from hv]
    rfl
  · rw [State.fallDue_of_drop hw hq hm]
    rfl
  · rw [State.fallDue_of_hold hw hq hm]
    rfl

/-! ### The ends of actions in flight -/

theorem State.setChannel_self (s : State) (c : ChannelIx) : s.setChannel c s.channels[c] = s := by
  have h : s.channels.set c s.channels[c] c.isLt = s.channels := Vector.set_getElem_self c.isLt
  rw [State.setChannel, h]
  rfl

theorem exec_pulseEnd {s : State} (h : s.rstn = .high) (c : ChannelIx) :
    exec (.pulseEnd c) s = .next (s.setChannel c (s.channels[c]).endPulse) := next_of_rstn_high h _

theorem exec_burstPhaseChange {s : State} (h : s.rstn = .high) (c : ChannelIx) :
    exec (.burstPhaseChange c) s = .next (s.setChannel c (s.channels[c]).phaseChange) := next_of_rstn_high h _

/-- A channel without a pulse at its end keeps its state (R78). -/
theorem Channel.endPulse_of_not_reached {c : Channel} (h : ∀ q p, c.state ≠ .pulse q p 0) : c.endPulse = c :=
  if_neg fun hreached => by
    obtain ⟨q, p, hp⟩ := (Channel.endReached_iff c).mp hreached
    exact h q p hp

theorem Channel.endPulse_of_reached {c : Channel} {q : Fin 4} {p : Handle} (h : c.state = .pulse q p 0) :
    c.endPulse = c.toRest := if_pos ((Channel.endReached_iff c).mpr ⟨q, p, h⟩)

section
variable {c : Channel} {q : Fin 4} {p : Handle} {n hi lo : Nat}

/-- A HIGH phase runs into LOW (R79). -/
theorem Channel.phaseChange_of_high (h : c.state = .burst q p .high 0 n hi lo) :
    c.phaseChange = { c with state := .burst q p .low lo n hi lo, line := c.rest } := by simp [Channel.phaseChange, h]

/-- A LOW phase runs into HIGH while cycles remain (R79). -/
theorem Channel.phaseChange_of_low (h : c.state = .burst q p .low 0 n hi lo) (hn : 1 < n) :
    c.phaseChange = { c with state := .burst q p .high hi (n - 1) hi lo, line := c.active } := by
  simp [Channel.phaseChange, h, hn]

/-- The last LOW phase ends the burst (R79). -/
theorem Channel.phaseChange_of_last (h : c.state = .burst q p .low 0 1 hi lo) : c.phaseChange = c.toRest := by
  simp [Channel.phaseChange, h]

end

/-- A channel without a phase that has run out keeps its state (R79, R80). -/
theorem Channel.phaseChange_of_not_over {c : Channel} (h : ∀ q p k n hi lo, c.state ≠ .burst q p k 0 n hi lo) :
    c.phaseChange = c := by
  unfold Channel.phaseChange
  split
  · next hc => exact absurd hc (h _ _ _ _ _ _)
  · next hc => exact absurd hc (h _ _ _ _ _ _)
  · rfl

/-- Settles O29: an equation of the channel's change for each case. -/
theorem actionsInFlightEnd : Obligations.ActionsInFlightEnd := by
  constructor
  · intro s c hrstn
    rw [exec_pulseEnd hrstn]
    refine ⟨fun q p hp => ?_, fun hp => ?_⟩
    · rw [Channel.endPulse_of_reached hp]
      rfl
    · rw [Channel.endPulse_of_not_reached hp, State.setChannel_self]
  · intro s c hrstn x
    rw [exec_burstPhaseChange hrstn]
    refine ⟨fun q p n hi lo hx => ?_, fun q p n hi lo hx hn => ?_, fun q p hi lo hx hline => ?_, fun hx => ?_⟩
    · rw [Channel.phaseChange_of_high hx]
      rfl
    · rw [Channel.phaseChange_of_low hx hn]
      rfl
    · have hrest : x.line = x.rest := by simpa [Channel.lineAgrees, hx] using hline
      rw [Channel.phaseChange_of_last hx, show (s.channels[c]).toRest = { x with state := .rest } by rw [Channel.toRest, ← hrest]]
      rfl
    · rw [Channel.phaseChange_of_not_over hx, State.setChannel_self]

/-! ### CHAN_CONFIG and CHAN_READ -/

theorem Channel.inFlight_iff (c : Channel) :
    c.inFlight = true ↔ (∃ q h g, c.state = .pulse q h g) ∨ (∃ q h p k n hi lo, c.state = .burst q h p k n hi lo) := by
  cases hc : c.state <;> simp [Channel.inFlight, hc]

/-- The table locks a channel that some record not DONE names (R8, R67). -/
theorem State.locks_iff_locked (s : State) (c : ChannelIx) : s.table.locks c = true ↔ s.locked c := by
  simp only [ActionTable.locks_eq_true, State.locked, Phase.isActive, Bool.not_eq_true']
  refine exists_congr fun i => exists_congr fun r => ?_
  cases hw : r.what.work <;> simp [ActionRecord.channel, hw]; tauto

/-- The line of a channel without an action in flight under a new configuration (R67). -/
theorem Channel.configure_of_not_inFlight {c : Channel} (h : c.inFlight = false) (a : ChanConfigItems) :
    c.configure a.rest a.safe a.policy = { c with
      rest := a.rest, safe := a.safe, policy := a.policy
      line := match c.state, a.safe with
        | .asserted, _ => a.rest.flip
        | .safe, .active => a.rest.flip
        | .safe, .keep => c.line
        | _, _ => a.rest } := by
  cases hc : c.state with
  | rest => simp [Channel.configure, Channel.redrive, hc]
  | asserted => simp [Channel.configure, Channel.redrive, Channel.active, hc]
  | pulse => simp [Channel.inFlight, hc] at h
  | burst => simp [Channel.inFlight, hc] at h
  | safe => cases hs : a.safe <;> simp [Channel.configure, Channel.redrive, Channel.safeLine, Channel.active, hc]

theorem configByte_eq (x : Channel) : configByte x = BitVec.ofNat 8 ((if x.rest = .high then 1 else 0)
    + 2 * (if x.safe = .active then 1 else if x.safe = .keep then 2 else 0)
    + 8 * (if x.policy = .merge then 1 else 0) + 128 * (if x.line = .high then 1 else 0)) := by
  have hlevel (l : Level) : levelBit l = if l = .high then 1 else 0 := by cases l <;> rfl
  have hsafe : safeCode x.safe = if x.safe = .active then 1 else if x.safe = .keep then 2 else 0 := by cases x.safe <;> rfl
  have hpolicy : bit (x.policy == .merge) = if x.policy = .merge then 1 else 0 := by cases x.policy <;> rfl
  rw [configByte, hlevel, hlevel, hsafe, hpolicy]
  rfl

/-- The grains that a pulse in flight shows (R69, notes/assumptions/8.md). -/
theorem shownGrains_eq (g : Nat) : min 65535 (max 1 g) = if g = 0 then 1 else min 65535 g := by
  split <;> omega

section
variable {s : State} {c : ChannelIx} {a : ChanConfigItems}

theorem chanConfigClaim_out_of_range (h : 15 < a.channel) (s : State) : chanConfigClaim a s = refuse s .badField := by
  rw [chanConfigClaim, finOf_eq_none.mpr h]

theorem chanConfigClaim_in_range (h : a.channel = c.val) (s : State) : chanConfigClaim a s =
    if (s.channels[c]).inFlight then refuse s .busy
    else if s.table.locks c then refuse s .busy
    else answer (s.setChannel c ((s.channels[c]).configure a.rest a.safe a.policy)) [] := by
  rw [chanConfigClaim, finOf_eq_some.mpr h]

theorem chanReadClaim_out_of_range {n : Nat} (h : 15 < n) (s : State) : chanReadClaim n s = refuse s .badField := by
  rw [chanReadClaim, finOf_eq_none.mpr h]

theorem chanReadClaim_in_range {n : Nat} (h : n = c.val) (s : State) :
    chanReadClaim n s = answer s (channelImage s.channels[c]) := by
  rw [chanReadClaim, finOf_eq_some.mpr h]

end

/-- Settles O30: the checks of CHAN_CONFIG in order with the new line, and the bytes of CHAN_READ by the channel's state. -/
theorem chanConfigAndChanRead : Obligations.ChanConfigAndChanRead := by
  constructor
  · intro s tag a h
    refine ⟨exec_of_refuse h rfl rfl, fun hbad => exec_of_refuse h rfl (chanConfigClaim_out_of_range hbad s),
      fun c hc => ?_⟩
    intro x flying
    have hclaim := chanConfigClaim_in_range hc s
    constructor
    · intro hbusy
      refine exec_of_refuse h rfl (hclaim.trans ?_)
      by_cases hfly : (s.channels[c]).inFlight = true
      · exact if_pos hfly
      · have hlocked := hbusy.resolve_left (mt (Channel.inFlight_iff _).mpr hfly)
        rw [if_neg hfly, if_pos ((s.locks_iff_locked c).mpr hlocked)]
    · intro hfly hlocked
      have hstill : ¬ (s.channels[c]).inFlight = true := mt (Channel.inFlight_iff _).mp hfly
      refine exec_of_answer h rfl (hclaim.trans ?_)
      rw [if_neg hstill, if_neg (mt (s.locks_iff_locked c).mp hlocked),
        Channel.configure_of_not_inFlight (Bool.eq_false_of_not_eq_true hstill)]
      rfl
  · intro s tag n h
    refine ⟨exec_of_refuse h rfl rfl, fun hbad => exec_of_refuse h rfl (chanReadClaim_out_of_range hbad s), fun c hc => ?_⟩
    intro x two high config counters steady
    refine exec_of_answer h rfl ((chanReadClaim_in_range hc s).trans (congrArg (answer s) ?_))
    have hconfig : configByte x = config := configByte_eq x
    rw [show s.channels[c] = x from rfl, channelImage, hconfig]
    cases hx : x.state with
    | pulse q p g =>
      rw [inFlightBytes, shownGrains_eq]
      rfl
    | _ => rfl

end Sys2Proof.Machine
end

section
/-! PROOF. The items of ARM and of the spawn steps (R89, R123), ARM (R89 to R91), the handle checks (R3) and AMEND (R92, R93). -/

namespace Sys2Proof.Machine

/-! ### The items of a record -/

/-- Settles O31: each check accepts exactly the items that meet its table, and its result is what they give. -/
theorem recordItemsAreJudged : Obligations.RecordItemsAreJudged := by
  constructor
  · intro a
    refine ⟨fun hmeets hnone => checkArm_eq_none_iff.mp hnone hmeets, fun x hx => ?_⟩
    obtain ⟨hrecord, hvalue, hstart, hform, hgroup, -⟩ := checkArm_eq_some_iff.mp hx
    exact ⟨exists_checkArm_iff.mp ⟨x, hx⟩, gives_of_checkRecord hrecord, hstart, hform, hvalue, hgroup⟩
  · intro a
    constructor
    · intro hmeets h1 hhorizon hnone
      obtain ⟨y, hy⟩ := exists_checkStep_iff.mpr ⟨hmeets, h1, hhorizon⟩
      exact Option.some_ne_none y (hy.symm.trans hnone)
    · intro x hx
      obtain ⟨hrecord, ⟨h1, hhorizon⟩, hoffset⟩ := checkStep_eq_some_iff.mp hx
      exact ⟨meets_of_checkRecord hrecord, gives_of_checkRecord hrecord, hoffset, h1, hhorizon⟩

/-! ### ARM -/

/-- An ABSOLUTE due beyond the horizon of its domain (R90). -/
theorem outOfHorizon_iff {s : State} {b : Base} {form : DueForm} {v : Word} :
    outOfHorizon s b form v = true ↔
      form = .absolute ∧ ¬ (1 ≤ s.ahead b v ∧ s.ahead b v ≤ Config.horizon b.domain) := by
  rw [outOfHorizon, Bool.and_eq_true, beq_iff_eq, Bool.not_eq_true', Bool.eq_false_iff, Ne, liesAhead_iff,
    State.ahead_eq_distance]

/-- The due value that a form and a value give at a base (R91, R93). -/
theorem formDue_eq (s : State) (b : Base) (form : DueForm) (v : Word) : formDue s b form v = match form, b with
    | .absolute, _ => v
    | .offset, .time => s.time.tbT + v
    | .offset, .position .fwd => s.time.tbP + v
    | .offset, .position .rev => s.time.tbP - v := by
  cases form with
  | absolute => rfl
  | offset =>
    rw [formDue, aheadOf_eq, BitVec.ofNat_toNat, BitVec.setWidth_eq]
    rcases b with _ | _ | _ <;> rfl

/-- The lowest FREE slot heads the free pool (R12). -/
theorem State.freeSlots_of_lowestFree {s : State} {i : SlotIx} (h : s.lowestFree i) :
    ∃ rest, s.table.freeSlots = i :: rest := by
  obtain ⟨hfree, hlowest⟩ := h
  have hi : i ∈ s.table.freeSlots := (s.table.mem_freeSlots i).mpr hfree
  have hpairwise := s.table.freeSlots_pairwise
  cases hl : s.table.freeSlots with
  | nil => simp [hl] at hi
  | cons j rest =>
    have hj : s.table.recordAt j = none := (s.table.mem_freeSlots j).mp (by simp [hl])
    rw [hl] at hi hpairwise
    rcases List.mem_cons.mp hi with rfl | hi
    · exact ⟨rest, rfl⟩
    · exact absurd hj (hlowest j (List.rel_of_pairwise_cons hpairwise hi))

theorem State.freeSlots_of_none_free {s : State} (h : ∀ i, s.table.recordAt i ≠ none) : s.table.freeSlots = [] :=
  List.eq_nil_iff_forall_not_mem.mpr fun i hi => h i ((s.table.mem_freeSlots i).mp hi)

section
variable {s : State} {a : ArmItems} {x : ArmSpec}

theorem armClaim_of_not_meets (h : ¬ a.Meets) (s : State) : armClaim (.fits a) s = refuse s .badField := by
  rw [armClaim, checkArm_eq_none_iff.mpr h]

theorem armClaim_of_beyond (h : checkArm a = some x)
    (hbeyond : x.start = .armed ∧ outOfHorizon s x.what.base x.form x.value = true) :
    armClaim (.fits a) s = refuse s .range := by
  simp only [armClaim, h, if_pos hbeyond]

variable (h : checkArm a = some x) (hwithin : ¬ (x.start = .armed ∧ outOfHorizon s x.what.base x.form x.value = true))
include h hwithin

theorem armClaim_of_homing (hhoming : x.what.base.domain = .position ∧ s.time.homing = true) :
    armClaim (.fits a) s = refuse s .state := by
  simp only [armClaim, h, if_neg hwithin, if_pos hhoming]

variable (hidle : ¬ (x.what.base.domain = .position ∧ s.time.homing = true))
include hidle

theorem armClaim_of_sweeping (hsweep : ¬ s.normal) : armClaim (.fits a) s = refuse s .busy := by
  simp only [armClaim, h, if_neg hwithin, if_neg hidle, if_pos (s.sweeping_eq_true_iff.mpr hsweep)]

variable (hnormal : s.normal)
include hnormal

theorem armClaim_of_full (hfull : s.table.freeSlots = []) : armClaim (.fits a) s = refuse s .full := by
  simp only [armClaim, h, if_neg hwithin, if_neg hidle, s.sweeping_eq_false_iff.mpr hnormal, Bool.false_eq_true, if_false,
    hfull]

theorem armClaim_of_free {i : SlotIx} {rest : List SlotIx} (hfree : s.table.freeSlots = i :: rest) :
    armClaim (.fits a) s = answer (s.setTable (s.table.write i (armRecord s x))).reportLevels
      (armBytes (s.table.handleOf i) (armRecord s x)) := by
  simp only [armClaim, h, if_neg hwithin, if_neg hidle, s.sweeping_eq_false_iff.mpr hnormal, Bool.false_eq_true, if_false,
    hfree]

end

theorem armRecord_what (s : State) (x : ArmSpec) : (armRecord s x).what = x.what := by unfold armRecord; split <;> rfl
theorem armRecord_group (s : State) (x : ArmSpec) : (armRecord s x).group = x.group := by unfold armRecord; split <;> rfl

/-- A new record is the host's, without an outcome (R91). -/
theorem armRecord_fresh (s : State) (x : ArmSpec) : (armRecord s x).origin = .host ∧ (armRecord s x).fired = 0
    ∧ (armRecord s x).late = 0 ∧ (armRecord s x).conflict = 0 ∧ (armRecord s x).missed = 0 ∧ (armRecord s x).last = .none := by
  unfold armRecord
  split <;> exact ⟨rfl, rfl, rfl, rfl, rfl, rfl⟩

theorem armRecord_phase (s : State) (x : ArmSpec) : (armRecord s x).phase =
    if x.start = .armed then .armed (formDue s x.what.base x.form x.value) else .parked x.value.toNat := by
  unfold armRecord
  split <;> next hstart => simp [hstart, Template.newRecord]

theorem armBytes_eq (s : State) (i : SlotIx) (x : ArmSpec) : armBytes (s.table.handleOf i) (armRecord s x) =
    [BitVec.ofNat 8 i.val, (s.table.slot i).gen] ++ (if x.start = .armed
      then 2 :: wordBytes (formDue s x.what.base x.form x.value) else [1, 0, 0, 0, 0]) := by
  rw [armBytes, armRecord_phase]
  split
  · rw [← beWord_eq_wordBytes]
    rfl
  · rfl

/-- Settles O32: each check where those before it pass, and the record of an accepted ARM in the lowest FREE slot. -/
theorem armChecksThenTakesTheLowestSlot : Obligations.ArmChecksThenTakesTheLowestSlot := by
  intro s tag a h answers
  refine ⟨exec_of_refuse h rfl rfl, fun hnot => exec_of_refuse h rfl (armClaim_of_not_meets hnot s), fun v hmeets hv => ?_⟩
  obtain ⟨x, hx⟩ := exists_checkArm_iff.mpr hmeets
  obtain ⟨hrecord, hvalue, hstart, hform, hgroup, -⟩ := checkArm_eq_some_iff.mp hx
  have hgives := gives_of_checkRecord hrecord
  have hdomain : x.what.base.domain = a.items.domain := checkBase_domain (checkRecord_eq_some_iff.mp hrecord).1
  obtain rfl : v = x.value := Option.some.inj (hv.symm.trans hvalue)
  intro base beyond homing
  have hbase : x.what.base = base := hgives.base
  have hbeyond : beyond ↔ x.start = .armed ∧ outOfHorizon s x.what.base x.form x.value = true := by
    rw [outOfHorizon_iff, hdomain, hbase, hstart, hform]
  have hhoming : homing ↔ x.what.base.domain = .position ∧ s.time.homing = true := by rw [hdomain]
  refine ⟨fun hb => exec_of_refuse h rfl (armClaim_of_beyond hx (hbeyond.mp hb)),
    fun hb hh => exec_of_refuse h rfl (armClaim_of_homing hx (mt hbeyond.mpr hb) (hhoming.mp hh)),
    fun hb hh hn => exec_of_refuse h rfl (armClaim_of_sweeping hx (mt hbeyond.mpr hb) (mt hhoming.mpr hh) hn),
    fun hb hh hn hfull => exec_of_refuse h rfl
      (armClaim_of_full hx (mt hbeyond.mpr hb) (mt hhoming.mpr hh) hn (State.freeSlots_of_none_free hfull)),
    fun hb hh hn i hi => ?_⟩
  intro due
  have hdue : formDue s x.what.base x.form x.value = due := by
    rw [hbase, hform]
    exact formDue_eq s _ _ _
  obtain ⟨rest, hfree⟩ := State.freeSlots_of_lowestFree hi
  obtain ⟨hhost, hcounts⟩ := armRecord_fresh s x
  have hbytes := armBytes_eq s i x
  rw [hdue, hstart] at hbytes
  refine ⟨armRecord s x, ?_, by rw [armRecord_what]; exact hgives, hhost, by rw [armRecord_group, hgroup],
    by rw [armRecord_phase, hdue, hstart], hcounts⟩
  rw [← hbytes]
  exact exec_of_answer h rfl (armClaim_of_free hx (mt hbeyond.mpr hb) (mt hhoming.mpr hh) hn hfree)

/-! ### The handle checks -/

section
variable {s : State} {h : HandleItems}

theorem checkHandle_of_out_of_range (hslot : 127 < h.slot.toNat) (s : State) : checkHandle s h = .error .badField := by
  rw [checkHandle, finOf_eq_none.mpr hslot]

variable (hslot : h.slot.toNat ≤ 127)
include hslot

theorem checkHandle_of_sweeping (hsweep : ¬ s.normal) : checkHandle s h = .error .busy := by
  have hi : finOf 128 h.slot.toNat = some ⟨h.slot.toNat, Nat.lt_succ_of_le hslot⟩ := finOf_eq_some.mpr rfl
  simp only [checkHandle, hi, s.sweeping_eq_true_iff.mpr hsweep, if_true]

theorem checkHandle_of_stale (hnormal : s.normal) (hstale : ∀ i r, ¬ s.names h i r) : checkHandle s h = .error .stale := by
  have hi : finOf 128 h.slot.toNat = some ⟨h.slot.toNat, Nat.lt_succ_of_le hslot⟩ := finOf_eq_some.mpr rfl
  simp only [checkHandle, hi, s.sweeping_eq_false_iff.mpr hnormal, Bool.false_eq_true, if_false]
  split
  · next r hr => exact if_neg fun hgen => hstale _ r ⟨rfl, hr, hgen⟩
  · rfl

end

/-- A handle that names a record passes its checks in a NORMAL table (R3). -/
theorem checkHandle_of_names {s : State} {h : HandleItems} {i : SlotIx} {r : ActionRecord} (hnormal : s.normal)
    (hnames : s.names h i r) : checkHandle s h = .ok (i, r) := by
  obtain ⟨hslot, hr, hgen⟩ := hnames
  exact (checkHandle_eq_ok s h i r).mpr ⟨s.sweeping_eq_false_iff.mpr hnormal, hslot, hr, hgen⟩

/-- The four requests that name a handle give its check's refusal. -/
theorem exec_of_checkHandle_error {s : State} {tag : Byte} {h : HandleItems} {body : Payload AmendBody} {c : Instr} {e : Result}
    (haccepts : s.accepts) (hc : c ∈ [Instr.retire tag (.fits h), .peek tag (.fits h), .collect tag (.fits (some h)),
      .amend tag (.fits { handle := h, body := body })]) (he : checkHandle s h = .error e) :
    exec c s = .next (s.answered tag e []) := by
  simp only [List.mem_cons, List.not_mem_nil, or_false] at hc
  rcases hc with rfl | rfl | rfl | rfl
  · exact exec_of_refuse haccepts rfl (show retireClaim h s = _ by rw [retireClaim, he])
  · exact exec_of_refuse haccepts rfl (show peekClaim h s = _ by rw [peekClaim, he])
  · exact exec_of_refuse haccepts rfl (show collectNamed h s = _ by rw [collectNamed, he])
  · exact exec_of_refuse haccepts rfl (show amendClaim { handle := h, body := body } s = _ by rw [amendClaim, he])

/-- Settles O33: the refusals of the handle check, each passed on by the four requests, and of a payload that does not fit. -/
theorem handleChecksComeFirst : Obligations.HandleChecksComeFirst := by
  intro s tag h body c haccepts hc
  refine ⟨fun hslot => exec_of_checkHandle_error haccepts hc (checkHandle_of_out_of_range hslot s),
    fun hslot hsweep => exec_of_checkHandle_error haccepts hc (checkHandle_of_sweeping hslot hsweep),
    fun hslot hnormal hstale => exec_of_checkHandle_error haccepts hc (checkHandle_of_stale hslot hnormal hstale),
    fun u hu => ?_⟩
  simp only [List.mem_cons, List.not_mem_nil, or_false] at hu
  rcases hu with rfl | rfl | rfl | rfl <;> exact exec_of_refuse haccepts rfl rfl

/-! ### AMEND -/

theorem Phase.isDone_iff {p : Phase} : p.isDone = true ↔ ∃ due why, p = .done due why := by cases p <;> simp [Phase.isDone]

theorem Phase.isDone_eq_false_iff {p : Phase} : p.isDone = false ↔ ∀ due why, p ≠ .done due why := by
  cases p <;> simp [Phase.isDone]

theorem amendWork_eq (b : AmendBody) (w : Work) : amendWork b w = match w with
    | .onChannel c (.pulse n) => .onChannel c (.pulse (b.width.getD n))
    | .onChannel c (.burst y) => .onChannel c (.burst (match b.burst with
        | some x => { high := x.high, low := x.low, cycles := x.cycles }
        | none => y))
    | w => w := by
  cases w with
  | mark => rfl
  | onChannel c a => cases a <;> rfl

/-- An accepted priority is the new one (R92, R93). -/
theorem amendPriority_val {b : AmendBody} {r : ActionRecord} (h : b.Meets r) :
    (amendTemplate b r.what).priority.val = b.priority.getD r.what.priority.val := by
  simp only [amendTemplate]
  cases hp : b.priority with
  | none => rfl
  | some p =>
    have hfin : finOf 4 p = some ⟨p, Nat.lt_succ_of_le (h.priority p hp)⟩ := finOf_eq_some.mpr rfl
    simp [hfin]

/-- A record left by an accepted AMEND is what R93 says. -/
theorem amendRecord_amendedAs {s : State} {b : AmendBody} {r : ActionRecord} (hactive : r.phase.isDone = false)
    (h : b.Meets r) : AmendedAs s r b (amendRecord s r b) where
  kept := ⟨rfl, rfl, rfl, rfl, rfl, rfl, rfl⟩
  work := amendWork_eq b r.what.work
  priority := amendPriority_val h
  rep := by
    cases hb : b.rep with
    | none => simp [amendRecord, amendTemplate, hb]
    | some x =>
      cases x with
      | remove => simp [amendRecord, amendTemplate, hb]
      | set x =>
        obtain ⟨y, hy⟩ : ∃ y, checkRepeatItems x r.what.base.domain = some y :=
          Option.isSome_iff_exists.mp (amendRepeatOk_iff.mpr (fun z hz => by cases hz; exact h.rep x hb) :
            amendRepeatOk r.what.base.domain (some (.set x)) = true)
        obtain ⟨-, hgive⟩ := checkRepeatItems_eq_some_iff.mp hy
        exact ⟨y, by simp [amendRecord, amendTemplate, hb, hy], hgive⟩
  keep := rfl
  miss := rfl
  group := by cases hg : b.group <;> simp [amendRecord, hg]
  phase := by
    rcases hb : b.due with _ | ⟨form, v⟩
    · simp [amendRecord, amendPhase, hb]
    · cases hp : r.phase with
      | parked n => cases form <;> simp [amendRecord, amendPhase, hb, hp]
      | done => simp [hp, Phase.isDone] at hactive
      | armed | suspended =>
        cases form with
        | absolute => simp [amendRecord, amendPhase, hb, hp, formDue_eq]
        | offset => rcases hbase : r.what.base with _ | _ | _ <;> simp [amendRecord, amendPhase, hb, hp, hbase, formDue_eq]

section
variable {s : State} {h : HandleItems} {i : SlotIx} {r : ActionRecord} {b : AmendBody}
variable (hc : checkHandle s h = .ok (i, r))
include hc

theorem amendClaim_of_done (hdone : r.phase.isDone = true) (body : Payload AmendBody) :
    amendClaim { handle := h, body := body } s = refuse s .state := by
  simp only [amendClaim, hc, hdone, if_true]

variable (hactive : r.phase.isDone = false)
include hactive

theorem amendClaim_of_unfit : amendClaim { handle := h, body := .unfit } s = refuse s .badField := by
  simp only [amendClaim, hc, hactive, Bool.false_eq_true, if_false]

theorem amendClaim_of_not_meets (hnot : ¬ b.Meets r) : amendClaim { handle := h, body := .fits b } s = refuse s .badField := by
  have hfields : amendFieldsOk b r = false := Bool.eq_false_iff.mpr (mt amendFieldsOk_iff.mp hnot)
  simp only [amendClaim, hc, hactive, hfields, Bool.not_false, Bool.false_eq_true, if_false, if_true]

/-- An AMEND that passes its fields goes on to its group and its due (R92). -/
theorem amendClaim_of_meets (hmeets : b.Meets r) : amendClaim { handle := h, body := .fits b } s =
    if b.group.isSome && !r.phase.isParked then refuse s .state
    else if b.due.any (fun x => outOfHorizon s r.what.base x.1 x.2) then refuse s .range
    else answer (s.applyAmend i (amendRecord s r b)) (amendBytes (amendRecord s r b)) := by
  simp only [amendClaim, hc, hactive, amendFieldsOk_iff.mpr hmeets, Bool.not_true, Bool.false_eq_true, if_false]

end

/-- An AMEND's due lies beyond the horizon exactly where it is ABSOLUTE and not within (R92). -/
theorem amendDue_beyond_iff {s : State} {b : Base} {due : Option (DueForm × Word)} :
    due.any (fun x => outOfHorizon s b x.1 x.2) = true ↔
      ¬ ∀ v, due = some (.absolute, v) → 1 ≤ s.ahead b v ∧ s.ahead b v ≤ Config.horizon b.domain := by
  rcases due with _ | ⟨form, v⟩
  · simp
  · cases form <;> simp [outOfHorizon_iff]

/-- The answer to an AMEND of a record that is not DONE (R93). -/
theorem amendBytes_eq {r : ActionRecord} (h : r.phase.isDone = false) : amendBytes r = match r.phase with
    | .parked n => 1 :: wordBytes (BitVec.ofNat 32 n)
    | .armed d => 2 :: wordBytes d
    | .suspended d => 3 :: wordBytes d
    | .done _ _ => [] := by
  cases hp : r.phase with
  | parked n => rw [amendBytes, hp, dueBytes, be32_eq_wordBytes]; rfl
  | armed d => rw [amendBytes, hp, dueBytes, beWord_eq_wordBytes]; rfl
  | suspended d => rw [amendBytes, hp, dueBytes, beWord_eq_wordBytes]; rfl
  | done => simp [hp, Phase.isDone] at h

theorem State.applyAmend_eq (s : State) (i : SlotIx) (r : ActionRecord) : s.applyAmend i r = { s with
    table := { s.table.write i r with suspended := match r.phase with
      | .suspended _ => s.table.suspended
      | _ => s.table.suspended.erase i } } := by
  unfold State.applyAmend
  cases r.phase <;> rfl

theorem amendRecord_isDone {s : State} {b : AmendBody} {r : ActionRecord} (h : r.phase.isDone = false) :
    (amendRecord s r b).phase.isDone = false := by
  rcases hb : b.due with _ | ⟨form, v⟩
  · simpa [amendRecord, amendPhase, hb] using h
  · cases hp : r.phase <;> simp [amendRecord, amendPhase, hb, hp, Phase.isDone]

/-- Settles O34: each check where those before it pass, and the record that an accepted AMEND leaves. -/
theorem amendChecksThenReplaces : Obligations.AmendChecksThenReplaces := by
  intro s tag h b i r haccepts hnormal hnames answers within
  have hc := checkHandle_of_names hnormal hnames
  constructor
  · intro due why hdone body
    exact exec_of_refuse haccepts rfl (amendClaim_of_done hc (Phase.isDone_iff.mpr ⟨due, why, hdone⟩) body)
  · intro hnotDone
    have hactive : r.phase.isDone = false := Phase.isDone_eq_false_iff.mpr hnotDone
    refine ⟨exec_of_refuse haccepts rfl (amendClaim_of_unfit hc hactive),
      fun hnot => exec_of_refuse haccepts rfl (amendClaim_of_not_meets hc hactive hnot), fun hmeets hgroup hparked => ?state,
      fun hmeets hgroup hbeyond => ?range, fun hmeets hgroup hwithin => ⟨_, amendRecord_amendedAs hactive hmeets, ?amended⟩⟩
    all_goals have hclaim := amendClaim_of_meets hc hactive hmeets
    case state =>
      have hrefused : (b.group.isSome && !r.phase.isParked) = true := by
        rw [Bool.and_eq_true, Option.isSome_iff_ne_none, Bool.not_eq_true', Bool.eq_false_iff]
        exact ⟨hgroup, fun hp => ((Phase.isParked_iff _).mp hp).elim hparked⟩
      exact exec_of_refuse haccepts rfl (hclaim.trans (if_pos hrefused))
    all_goals
      have hpasses : ¬ (b.group.isSome && !r.phase.isParked) = true := by
        rw [Bool.and_eq_true, Option.isSome_iff_ne_none, Bool.not_eq_true']
        rintro ⟨hsome, hnotParked⟩
        rw [(Phase.isParked_iff _).mpr (hgroup.resolve_left hsome)] at hnotParked
        cases hnotParked
      rw [if_neg hpasses] at hclaim
    case range =>
      exact exec_of_refuse haccepts rfl (hclaim.trans (if_pos (amendDue_beyond_iff.mpr hbeyond)))
    case amended =>
      rw [if_neg fun hb => amendDue_beyond_iff.mp hb hwithin, State.applyAmend_eq,
        amendBytes_eq (amendRecord_isDone hactive)] at hclaim
      exact exec_of_answer haccepts rfl hclaim

end Sys2Proof.Machine
end

section
/-! PROOF. RETIRE and COLLECT (R94, R155 to R157), the record image with PEEK and SCAN (R98, R99, Table 11-2), TABLE_CLEAR and its
sweep (R105, R106), and SETTINGS_READ (R16). -/

namespace Sys2Proof.Machine

/-! ### RETIRE and COLLECT -/

theorem slotCode_of_none {t : ActionTable} {i : SlotIx} (h : t.recordAt i = none) : slotCode t i = 0 := by rw [slotCode, h]

theorem slotCode_of_record {t : ActionTable} {i : SlotIx} {r : ActionRecord} (h : t.recordAt i = some r) :
    slotCode t i = phaseCode r.phase := by rw [slotCode, h]

section
variable {s : State} {h : HandleItems} {i : SlotIx} {r : ActionRecord}

/-- The slot of a retired record: DONE with keep, FREE without (R94). -/
theorem slotCode_finish (s : State) (i : SlotIx) (r : ActionRecord) (reason : EndReason) :
    slotCode (s.finish i r reason).table i = if r.what.keep = true then 4 else 0 := by
  split
  · next hkeep =>
    rw [s.finish_of_keep i reason hkeep]
    exact slotCode_of_record (congrArg Slot.content (s.makeDone_keptDone i r reason).slot)
  · next hkeep =>
    rw [s.finish_of_not_keep i reason (Bool.eq_false_of_not_eq_true hkeep)]
    exact slotCode_of_none (congrArg Slot.content (s.freeSlot_freed i r).slot)

variable (hc : checkHandle s h = .ok (i, r))
include hc

theorem retireClaim_of_done (hdone : r.phase.isDone = true) : retireClaim h s = refuse s .state := by
  simp only [retireClaim, hc, hdone, if_true]

theorem retireClaim_of_active (hactive : r.phase.isDone = false) : retireClaim h s =
    answer (s.finish i r .retired).reportLevels [u8 (if r.what.keep = true then 4 else 0)] := by
  simp only [retireClaim, hc, hactive, Bool.false_eq_true, if_false, State.reportLevels_table, slotCode_finish]

theorem collectNamed_of_done (hdone : r.phase.isDone = true) : collectNamed h s = s.collect i r := by
  simp only [collectNamed, hc, hdone, if_true]

theorem collectNamed_of_active (hactive : r.phase.isDone = false) : collectNamed h s = refuse s .state := by
  simp only [collectNamed, hc, hactive, Bool.false_eq_true, if_false]

end

section
variable {s : State}

theorem collectHead_of_sweeping (h : ¬ s.normal) : collectHead s = refuse s .busy :=
  if_pos (s.sweeping_eq_true_iff.mpr h)

variable (hnormal : s.normal)
include hnormal

theorem collectHead_of_empty (h : s.table.doneList = []) : collectHead s = refuse s .empty := by
  simp only [collectHead, s.sweeping_eq_false_iff.mpr hnormal, Bool.false_eq_true, if_false, h]

theorem collectHead_of_head {i : SlotIx} {rest : List SlotIx} {r : ActionRecord} (h : s.table.doneList = i :: rest)
    (hr : s.table.recordAt i = some r) : collectHead s = s.collect i r := by
  simp only [collectHead, s.sweeping_eq_false_iff.mpr hnormal, Bool.false_eq_true, if_false, h, hr]

end

/-- A claim that collects a record frees its slot and answers its image as it stood (R157). -/
theorem exec_collect_of_collected {s : State} (haccepts : s.accepts) (tag : Byte) {p : Option HandleItems} {i : SlotIx}
    {r : ActionRecord} (h : collectClaim p s = s.collect i r) : ∃ t : State, Freed s t i r
      ∧ exec (.collect tag (.fits p)) s = .next (t.reportLevels.answered tag .ok
          (recordImage { slot := i, gen := (s.table.slot i).gen } r)) :=
  ⟨s.freeSlot i r, s.freeSlot_freed i r, exec_of_answer haccepts rfl h⟩

/-- Settles O35: RETIRE by the record's keep, COLLECT by the head of the done list or the record named. -/
theorem retireAndCollectEndOneRecord : Obligations.RetireAndCollectEndOneRecord := by
  constructor
  · intro s tag h i r haccepts hnormal hnames
    have hc := checkHandle_of_names hnormal hnames
    refine ⟨fun due why hdone => exec_of_refuse haccepts rfl (retireClaim_of_done hc (Phase.isDone_iff.mpr ⟨due, why, hdone⟩)),
      fun hactive => ⟨s.finish i r .retired, ?_, fun hkeep => ?_, fun hkeep => ?_⟩⟩
    · have hanswer := exec_of_answer (c := .retire tag (.fits h)) (tag := tag) haccepts rfl
        (retireClaim_of_active hc (Phase.isDone_eq_false_iff.mpr hactive))
      rw [hanswer]
      cases r.what.keep <;> rfl
    · rw [s.finish_of_keep i _ hkeep]
      exact s.makeDone_keptDone i r _
    · rw [s.finish_of_not_keep i _ hkeep]
      exact s.freeSlot_freed i r
  · intro s tag haccepts collected
    refine ⟨fun hsweep => exec_of_refuse haccepts rfl (collectHead_of_sweeping hsweep),
      fun hnormal hempty => exec_of_refuse haccepts rfl (collectHead_of_empty hnormal hempty),
      fun hnormal i rest r hlist hr => exec_collect_of_collected haccepts tag (collectHead_of_head hnormal hlist hr),
      fun hnormal h i r hnames => ?_⟩
    have hc := checkHandle_of_names hnormal hnames
    exact ⟨fun hactive => exec_of_refuse haccepts rfl (collectNamed_of_active hc (Phase.isDone_eq_false_iff.mpr hactive)),
      fun due why hdone => exec_collect_of_collected haccepts tag
        (collectNamed_of_done hc (Phase.isDone_iff.mpr ⟨due, why, hdone⟩))⟩

/-! ### The record image -/

theorem dueBytes_eq (p : Phase) : dueBytes p = wordBytes (match p with
    | .parked n => BitVec.ofNat 32 n
    | .armed d => d
    | .suspended d => d
    | .done d _ => d.getD 0) := by
  rcases p with n | d | d | ⟨_ | d, _⟩
  · exact be32_eq_wordBytes n
  · exact beWord_eq_wordBytes d
  · exact beWord_eq_wordBytes d
  · exact be32_eq_wordBytes 0
  · exact beWord_eq_wordBytes d

theorem repeatBytes_eq (x : Option Repeat) : repeatBytes x = match x with
    | none => [0, 0, 0, 0, 0, 0]
    | some x => wordBytes (BitVec.ofNat 32 x.interval) ++ twoBytes (x.remaining.getD 0) := by
  cases x with
  | none => rfl
  | some x => exact congrArg (· ++ be16 _) (be32_eq_wordBytes x.interval)

theorem workBytes_eq (w : Work) : workBytes w = match w with
    | .onChannel _ (.pulse n) => twoBytes n ++ [0, 0]
    | .onChannel _ (.burst b) => twoBytes b.cycles ++ [BitVec.ofNat 8 b.high, BitVec.ofNat 8 b.low]
    | _ => [0, 0, 0, 0] := by
  rcases w with _ | ⟨c, _ | _ | _ | _ | _⟩ <;> rfl

theorem originBytes_eq (o : Origin) : originBytes o = match o with
    | .host => [0, 0, 0]
    | .binding b n => BitVec.ofNat 8 (128 + b.val) :: twoBytes n := by cases o <;> rfl

theorem dueBytes_length (p : Phase) : (dueBytes p).length = 4 := by rw [dueBytes_eq]; rfl
theorem repeatBytes_length (x : Option Repeat) : (repeatBytes x).length = 6 := by cases x <;> rfl
theorem workBytes_length (w : Work) : (workBytes w).length = 4 := by rcases w with _ | ⟨c, _ | _ | _ | _ | _⟩ <;> rfl
theorem originBytes_length (o : Origin) : (originBytes o).length = 3 := by cases o <;> rfl

/-- What stands behind a part of known length. -/
theorem drop_add_of_drop_eq_append {l a b : List Byte} {n m : Nat} (h : l.drop n = a ++ b) (ha : a.length = m) :
    l.drop (n + m) = b := by rw [← List.drop_drop, h, List.drop_left' ha]

theorem phaseCode_lt (p : Phase) : phaseCode p < 8 := by cases p <;> simp [phaseCode]
theorem endCode_lt (p : Phase) : endCode p < 8 := by unfold endCode; split <;> decide
theorem outcomeCode_lt (o : LastOutcome) : outcomeCode o < 8 := by cases o <;> decide

theorem dueAbsent_iff (p : Phase) : dueAbsent p = true ↔ ∃ why, p = .done none why := by
  rcases p with n | d | d | ⟨_ | d, _⟩ <;> simp [dueAbsent]

/-- A record's image is laid out as Table 11-2 gives: its first three bytes and its last bit by bit, the parts between them one
after another. -/
theorem recordImage_laid (h : Handle) (r : ActionRecord) : RecordLaid h r (recordImage h r) := by
  have hphase := phaseCode_lt r.phase
  have hchannel := channelCode_lt r.what.work
  have hwork := workCode_lt r.what.work
  have hpriority := r.what.priority.isLt
  have hrep := repeatCode_lt r.what.rep
  have habsent := bit_le_one (dueAbsent r.phase)
  have houtcome := outcomeCode_lt r.last
  have hend := endCode_lt r.phase
  have h0 : (recordImage h r).getD 0 0 = u8 (phaseCode r.phase + templateBits r.what) := rfl
  have h1 : (recordImage h r).getD 1 0 = u8 (kindBits r.what + 128 * bit (dueAbsent r.phase)) := rfl
  have h2 : (recordImage h r).getD 2 0 = u8 (channelCode r.what.work + 16 * r.group.getD 0) := rfl
  have hdue : (recordImage h r).drop 3 = dueBytes r.phase ++ (repeatBytes r.what.rep ++ (workBytes r.what.work
      ++ (handleBytes h ++ (originBytes r.origin ++ ((be16 r.fired ++ be16 r.late ++ be16 r.conflict ++ be16 r.missed)
      ++ [u8 (outcomeCode r.last + 8 * endCode r.phase)]))))) := by simp [recordImage]
  have hrepeat := drop_add_of_drop_eq_append hdue (dueBytes_length _)
  have hparameters := drop_add_of_drop_eq_append hrepeat (repeatBytes_length _)
  have hhandle := drop_add_of_drop_eq_append hparameters (workBytes_length _)
  have horigin := drop_add_of_drop_eq_append hhandle (m := 2) rfl
  have hcounts := drop_add_of_drop_eq_append horigin (originBytes_length _)
  have hlast := drop_add_of_drop_eq_append hcounts (m := 8) rfl
  have h30 : (recordImage h r).getD 30 0 = u8 (outcomeCode r.last + 8 * endCode r.phase) := by
    have hget : (recordImage h r).getD 30 0 = ((recordImage h r).drop 30).getD 0 0 := by
      simp [List.getD_eq_getElem?_getD]
    rw [hget, hlast]
    rfl
  refine ⟨?length, templateLaid_of_bytes (by omega) h0 h1, ?state, ?form, ?absent, ?channel, ?group, ?due, ?rep, ?work,
    ?handle, ?origin, ?counts, ?last, ?reason⟩
  case length =>
    have hlength := congrArg List.length hlast
    rw [List.length_drop, List.length_singleton] at hlength
    omega
  case state =>
    rw [h0, templateBits_eq, u8_extractLsb' (v := phaseCode r.phase) (by decide) (by omega)]
    cases r.phase <;> rfl
  case form =>
    rw [h0, templateBits_eq]
    exact u8_getLsbD (by decide) (by rw [show bit false = 0 from rfl]; omega)
  case absent =>
    rw [h1, kindBits, u8_getLsbD (b := dueAbsent r.phase) (by decide) (by omega), dueAbsent_iff]
  case channel =>
    rw [h2, shownChannel_eq]
    exact u8_extractLsb' (by decide) (by omega)
  case group =>
    rw [h2, u8_extractLsb' (v := r.group.getD 0 % 16) (by decide) (by omega)]
    exact BitVec.eq_of_toNat_eq (by simp)
  case due =>
    rw [hdue, List.take_left' (dueBytes_length _)]
    exact dueBytes_eq _
  case rep =>
    rw [hrepeat, List.take_left' (repeatBytes_length _)]
    exact repeatBytes_eq _
  case work =>
    rw [hparameters, List.take_left' (workBytes_length _)]
    exact workBytes_eq _
  case handle => exact congrArg (List.take 2) hhandle
  case origin =>
    rw [horigin, List.take_left' (originBytes_length _)]
    exact originBytes_eq _
  case counts => exact congrArg (List.take 8) hcounts
  case last =>
    rw [h30, u8_extractLsb' (v := outcomeCode r.last) (by decide) (by omega)]
    cases r.last <;> rfl
  case reason =>
    rw [h30, u8_extractLsb' (v := endCode r.phase) (by decide) (by omega)]
    rcases r.phase with _ | _ | _ | ⟨_, _ | _ | _ | _⟩ <;> rfl

/-! ### PEEK and SCAN -/

theorem peekClaim_of_ok {s : State} {h : HandleItems} {i : SlotIx} {r : ActionRecord} (hc : checkHandle s h = .ok (i, r)) :
    peekClaim h s = answer s (recordImage (s.table.handleOf i) r) := by rw [peekClaim, hc]

/-- In an ascending list the lowest slot that meets a condition is the first found. -/
theorem find?_of_lowest {l : List SlotIx} (hl : l.Pairwise (· < ·)) {p : SlotIx → Bool} {i : SlotIx} (hi : i ∈ l)
    (hp : p i = true) (hlow : ∀ j ∈ l, j < i → p j = false) : l.find? p = some i := by
  induction l with
  | nil => cases hi
  | cons j rest ih =>
    rcases List.mem_cons.mp hi with rfl | hrest
    · exact List.find?_cons_of_pos hp
    · have hj : p j = false := hlow j List.mem_cons_self (List.rel_of_pairwise_cons hl hrest)
      rw [List.find?_cons_of_neg (by simp [hj])]
      exact ih hl.of_cons hrest fun k hk => hlow k (List.mem_cons_of_mem j hk)

theorem ActionTable.scanFrom_eq_none {t : ActionTable} {n : Nat} (h : ∀ i : SlotIx, n ≤ i.val → t.recordAt i = none) :
    t.scanFrom n = none := by
  refine List.find?_eq_none.mpr fun i hi hn => ?_
  obtain ⟨r, hr, -⟩ := (t.mem_slotsWith _ i).mp hi
  rw [h i (of_decide_eq_true hn)] at hr
  cases hr

theorem ActionTable.scanFrom_eq_some {t : ActionTable} {n : Nat} {i : SlotIx} {r : ActionRecord} (hn : n ≤ i.val)
    (hr : t.recordAt i = some r) (hlow : ∀ j : SlotIx, n ≤ j.val → j < i → t.recordAt j = none) : t.scanFrom n = some i := by
  refine find?_of_lowest (t.slotsWith_pairwise _) ((t.mem_slotsWith _ i).mpr ⟨r, hr, rfl⟩) (decide_eq_true hn)
    fun j hj hji => decide_eq_false fun hnj => ?_
  obtain ⟨q, hq, -⟩ := (t.mem_slotsWith _ j).mp hj
  rw [hlow j hnj hji] at hq
  cases hq

section
variable {s : State} {n : Nat}

theorem scanClaim_out_of_range (h : 127 < n) (s : State) : scanClaim n s = refuse s .badField := if_pos h

variable (hn : n ≤ 127)
include hn

theorem scanClaim_of_sweeping (h : ¬ s.normal) : scanClaim n s = refuse s .busy := by
  rw [scanClaim, if_neg (Nat.not_lt.mpr hn), if_pos (s.sweeping_eq_true_iff.mpr h)]

variable (hnormal : s.normal)
include hnormal

theorem scanClaim_of_none (h : s.table.scanFrom n = none) : scanClaim n s = refuse s .empty := by
  simp only [scanClaim, if_neg (Nat.not_lt.mpr hn), s.sweeping_eq_false_iff.mpr hnormal, Bool.false_eq_true, if_false, h]

theorem scanClaim_of_some {i : SlotIx} (h : s.table.scanFrom n = some i) :
    scanClaim n s = answer s (handleBytes (s.table.handleOf i) ++ [u8 (slotCode s.table i)]) := by
  simp only [scanClaim, if_neg (Nat.not_lt.mpr hn), s.sweeping_eq_false_iff.mpr hnormal, Bool.false_eq_true, if_false, h]

end

/-- Settles O37: the record image, then PEEK of the record named, and SCAN by the first live slot found. -/
theorem peekAndScanChangeNothing : Obligations.PeekAndScanChangeNothing := by
  refine ⟨recordImage_laid, fun s tag haccepts => ⟨fun h i r hnormal hnames => ?peek, exec_of_refuse haccepts rfl rfl,
    fun n hn => exec_of_refuse haccepts rfl (scanClaim_out_of_range hn s), fun n hn => ⟨fun hsweep => ?sweeping,
    fun hnormal hnone => ?none, fun hnormal i r hni hr hlow => ?found⟩⟩⟩
  case peek => exact exec_of_answer haccepts rfl (peekClaim_of_ok (checkHandle_of_names hnormal hnames))
  case sweeping => exact exec_of_refuse haccepts rfl (scanClaim_of_sweeping hn hsweep)
  case none => exact exec_of_refuse haccepts rfl (scanClaim_of_none hn hnormal (ActionTable.scanFrom_eq_none hnone))
  case found =>
    have hclaim := scanClaim_of_some hn hnormal (ActionTable.scanFrom_eq_some hni hr hlow)
    rw [slotCode_of_record hr] at hclaim
    rw [exec_of_answer (c := .scan tag (.fits n)) (tag := tag) haccepts rfl hclaim]
    cases r.phase <;> rfl

/-! ### TABLE_CLEAR and the end of its sweep -/

theorem CauseState.reported_false (x : CauseState) : x.reported false = { x with pending := false } := rfl

theorem State.clearTable_freeCount (s : State) : s.clearTable.table.freeCount = 128 := by
  have hall : s.clearTable.table.freeSlots = List.finRange 128 := List.filter_eq_self.mpr fun i _ => by simp
  rw [ActionTable.freeCount, hall, List.length_finRange]

/-- An accepted TABLE_CLEAR ends both level conditions and leaves every other cause (R105). -/
theorem State.clearTable_cause {s : State} (h : s.table.lowThreshold ≤ 127) (c : Cause) :
    s.clearTable.attention.cause c = if c = .donePending ∨ c = .tableLow
      then { s.attention.cause c with pending := false } else s.attention.cause c := by
  have hlow : decide (s.clearTable.table.freeCount < s.table.lowThreshold) = false := by
    rw [State.clearTable_freeCount]
    exact decide_eq_false (by omega)
  have hcause := State.reportLevels_cause ((s.setTable { s.table with
      slots := s.table.slots.map Slot.cleared, suspended := [], doneList := [], sweep := some (128 - s.table.freeCount) }).setBindings
    (s.bindings.map (fun b => { b with live := 0 }))) c
  rw [State.clearTable, hcause]
  cases c with
  | donePending => exact (if_pos (.inl rfl)).symm
  | tableLow =>
    rw [if_pos (.inr rfl)]
    exact (congrArg (CauseState.reported _) hlow).trans (CauseState.reported_false _)
  | _ => rfl

theorem State.clearTable_binding (s : State) (b : BindingIx) :
    s.clearTable.bindings[b] = { s.bindings[b] with live := 0 } := by simp [State.clearTable]

theorem exec_sweepEnd_of_normal {s : State} (h : s.rstn = .high) (hnormal : s.normal) : exec .sweepEnd s = .next s := by
  refine (next_of_rstn_high h _).trans ?_
  rw [show s.table.sweep = none from hnormal]

theorem exec_sweepEnd_of_sweep {s : State} (h : s.rstn = .high) {n : Nat} (hn : s.table.sweep = some n) :
    exec .sweepEnd s = .next ((s.setTable s.table.swept).setLink
      { s.link with queue := s.link.queue.map (fillReserved { result := .ok, payload := [u8 n] }) }) := by
  refine (next_of_rstn_high h _).trans ?_
  rw [hn]
  rfl

theorem fillReserved_eq (r : Reply) (e : Entry) : fillReserved r e = match e.reply with
    | some _ => e
    | none => { tag := e.tag, reply := some r } := by
  obtain ⟨tag, _ | x⟩ := e <;> rfl

/-- Settles O39: TABLE_CLEAR's checks and the cleared table, then the end of a sweep. -/
theorem tableClearAndSweepEnd : Obligations.TableClearAndSweepEnd := by
  constructor
  · intro s tag haccepts
    have hsweeping (p : PadOnly) (h : ¬ s.normal) :
        tableClearClaim p s = (s, some { result := padOr 0x59 p .busy, payload := [] }) :=
      if_pos (s.sweeping_eq_true_iff.mpr h)
    have hnormal (h : s.normal) : ¬ s.sweeping = true := by simp [s.sweeping_eq_false_iff.mpr h]
    refine ⟨fun h => ?_, fun h => ?_, fun h hlow => ?_⟩
    · rw [exec_tableClear_accepted haccepts, hsweeping _ h]
      rfl
    · rw [exec_tableClear_accepted haccepts, tableClearClaim, if_neg (hnormal h)]
      rfl
    · refine ⟨s.clearTable.enqueue { tag := tag, reply := none }, ?_, rfl, fun i => ?_, fun b => s.clearTable_binding b,
        fun c => State.clearTable_cause hlow c⟩
      · rw [exec_tableClear_accepted haccepts, tableClearClaim, if_neg (hnormal h)]
      · exact s.clearTable_slot i
  · intro s hrstn
    refine ⟨exec_sweepEnd_of_normal hrstn, fun n hn => ⟨_, exec_sweepEnd_of_sweep hrstn hn, ?_, fun i => s.table.swept_slot i⟩⟩
    have hfill : fillReserved { result := .ok, payload := [u8 n] } = fun e => match e.reply with
        | some _ => e
        | none => { tag := e.tag, reply := some { result := .ok, payload := [BitVec.ofNat 8 n] } } :=
      funext (fillReserved_eq _)
    rw [hfill]
    rfl

/-! ### SETTINGS_READ -/

/-- A slot is FREE or holds a record that is PARKED, ARMED in one of the two domains, SUSPENDED or DONE, and never two of them
(R1, R4). -/
theorem one_of_phases (x : Option ActionRecord) :
    (if x.isNone = true then 1 else 0) + (if x.any (·.phase.isParked) = true then 1 else 0)
      + (if x.any (fun r => r.phase.isArmed && r.what.base == .time) = true then 1 else 0)
      + (if x.any (fun r => r.phase.isArmed && r.what.base != .time) = true then 1 else 0)
      + (if x.any (·.phase.isSuspended) = true then 1 else 0) + (if x.any (·.phase.isDone) = true then 1 else 0) = 1 := by
  rcases x with _ | r
  · rfl
  · cases hp : r.phase with
    | armed due => cases hb : r.what.base <;> simp [Phase.isParked, Phase.isArmed, Phase.isSuspended, Phase.isDone, hp, hb]
    | _ => simp [Phase.isParked, Phase.isArmed, Phase.isSuspended, Phase.isDone, hp]

/-- So these six make up any list of slots. -/
theorem length_eq_sum_of_phases (f : SlotIx → Option ActionRecord) (l : List SlotIx) :
    l.countP (fun i => (f i).isNone) + l.countP (fun i => (f i).any (·.phase.isParked))
      + l.countP (fun i => (f i).any (fun r => r.phase.isArmed && r.what.base == .time))
      + l.countP (fun i => (f i).any (fun r => r.phase.isArmed && r.what.base != .time))
      + l.countP (fun i => (f i).any (·.phase.isSuspended)) + l.countP (fun i => (f i).any (·.phase.isDone)) = l.length := by
  induction l with
  | nil => rfl
  | cons i rest ih =>
    have hone := one_of_phases (f i)
    simp only [List.countP_cons, List.length_cons]
    omega

/-- A collection that holds exactly the records of one phase has their number (R17). -/
theorem ActionTable.length_eq_slotsWith {t : ActionTable} {l : List SlotIx} {p : ActionRecord → Bool} (hl : l.Nodup)
    (h : ∀ i, i ∈ l ↔ ∃ r, t.recordAt i = some r ∧ p r = true) : l.length = (t.slotsWith p).length :=
  ((List.perm_ext_iff_of_nodup hl (t.slotsWith_nodup p)).mpr fun i => (h i).trans (t.mem_slotsWith p i).symm).length_eq

theorem ActionTable.timeDueOrder_length (t : ActionTable) (tbT : Word) :
    (t.timeDueOrder tbT).length = (t.slotsWith (fun r => r.phase.isArmed && r.what.base == .time)).length := by
  have hdomain (b : Base) : (b.domain == .time) = (b == .time) := by rcases b with _ | _ | _ <;> rfl
  simp only [t.timeDueOrder_eq_insertionSort, List.length_insertionSort, ActionTable.armedIn, hdomain]

theorem ActionTable.positionSet_eq (t : ActionTable) :
    t.positionSet = t.slotsWith (fun r => r.phase.isArmed && r.what.base != .time) := by
  have hdomain (b : Base) : (b.domain == .position) = (b != .time) := by rcases b with _ | _ | _ <;> rfl
  simp only [ActionTable.positionSet, ActionTable.armedIn, hdomain]

/-- Settles O41: SETTINGS_READ's checks and bytes, and the six numbers counted over the slots. -/
theorem settingsReadCountsEverySlot : Obligations.SettingsReadCountsEverySlot := by
  intro s tag haccepts number free timeOrder positions
  refine ⟨fun hsweep => exec_of_refuse haccepts rfl (if_pos (s.sweeping_eq_true_iff.mpr hsweep)), fun hnormal => ?_,
    fun hnormal hexact => ?_⟩
  all_goals have hsweep : ¬ s.sweeping = true := by simp [s.sweeping_eq_false_iff.mpr hnormal]
  · exact exec_of_refuse haccepts rfl (if_neg hsweep)
  · have hsuspended := ActionTable.length_eq_slotsWith hexact.suspended_nodup hexact.suspended_iff
    have hdone := ActionTable.length_eq_slotsWith hexact.done_nodup hexact.done_iff
    constructor
    · have hbytes : settingsBytes s = ([s.table.reserve, s.table.lowThreshold, free, number (·.phase.isParked), timeOrder,
          positions, s.table.suspended.length, s.table.doneList.length] : List Nat).map (BitVec.ofNat 8) := by
        rw [settingsBytes, s.table.timeDueOrder_length, s.table.positionSet_eq]
        rfl
      rw [← hbytes]
      exact exec_of_answer haccepts rfl (if_neg hsweep)
    · have hsum := length_eq_sum_of_phases s.table.recordAt (List.finRange 128)
      simp only [List.countP_eq_length_filter, List.length_finRange] at hsum
      rw [hsuspended, hdone]
      exact hsum

end Sys2Proof.Machine
end

section
/-! PROOF. The requests about a sense input (R117, R119), the entry to the quiesced condition and its exit (R81, R83, R141 to R147),
and the Attention Unit's causes (R160, R161, R167). -/

namespace Sys2Proof.Machine

/-! ### SENSE_CONFIG and READ_STAMP -/

section
variable {n : SenseIx} {a : SenseConfigItems}

theorem senseConfigClaim_out_of_range (h : 7 < a.input) (s : State) : senseConfigClaim a s = refuse s .badField := by
  rw [senseConfigClaim, finOf_eq_none.mpr h]

theorem senseConfigClaim_in_range (h : a.input = n.val) (s : State) : senseConfigClaim a s =
    if !prescaleOk a.prescale || 65535 < a.gap then refuse s .badField
    else answer (s.setSense n (s.senses[n].configure a)) [] := by
  rw [senseConfigClaim, finOf_eq_some.mpr h]

/-- The items of SENSE_CONFIG beside the input are refused where they are not in range (R117). -/
theorem senseConfig_refuses_iff : (!prescaleOk a.prescale || 65535 < a.gap) = true ↔
    ¬ ((a.prescale = 1 ∨ a.prescale = 2 ∨ a.prescale = 4 ∨ a.prescale = 8) ∧ a.gap ≤ 65535) := by
  rw [Bool.or_eq_true, Bool.not_eq_true', Bool.eq_false_iff, Ne, prescaleOk_iff, decide_eq_true_iff, not_and_or, Nat.not_le]

theorem readStampClaim_out_of_range {k : Nat} (h : 7 < k) (s : State) : readStampClaim k s = refuse s .badField := by
  rw [readStampClaim, finOf_eq_none.mpr h]

theorem readStampClaim_in_range {k : Nat} (h : k = n.val) (s : State) : readStampClaim k s =
    answer (s.setSense n { s.senses[n] with unread := false, overrun := false }) (stampImage n s.senses[n]) := by
  rw [readStampClaim, finOf_eq_some.mpr h]

end

/-- The stamp image, its last byte the sum of the polarity's code and the two flags (Table 11-4). -/
theorem stampImage_eq (n : SenseIx) (x : SenseInput) : stampImage n x =
    [BitVec.ofNat 8 n.val] ++ wordBytes x.stampT ++ wordBytes x.stampP
      ++ ([((match x.polarity with
          | none => 0
          | some .rise => 1
          | some .fall => 2 : Nat) : Byte)
        + (if x.unread = true then 4 else 0) + (if x.overrun = true then 8 else 0)] : List Byte) := by
  have hlast : u8 (polarityCode x.polarity + 4 * bit x.unread + 8 * bit x.overrun) = ((match x.polarity with
      | none => 0
      | some .rise => 1
      | some .fall => 2 : Nat) : Byte) + (if x.unread = true then 4 else 0) + (if x.overrun = true then 8 else 0) := by
    rcases x.polarity with _ | _ | _ <;> cases x.unread <;> cases x.overrun <;> rfl
  rw [stampImage, hlast, beWord_eq_wordBytes, beWord_eq_wordBytes]
  rfl

/-- Settles O43: the checks of SENSE_CONFIG in order with the input as it leaves it, and the stamp that READ_STAMP shows. -/
theorem senseConfigAndReadStamp : Obligations.SenseConfigAndReadStamp := by
  constructor
  · intro s tag a haccepts good
    refine ⟨exec_of_refuse haccepts rfl rfl, fun hbad => ?_, fun n hn hgood => ?_⟩
    · rcases lt_or_ge 7 a.input with hout | hin
      · exact exec_of_refuse haccepts rfl (senseConfigClaim_out_of_range hout s)
      · have hnot : ¬ good := hbad.resolve_left (Nat.not_lt.mpr hin)
        exact exec_of_refuse haccepts rfl ((senseConfigClaim_in_range (n := ⟨a.input, Nat.lt_succ_of_le hin⟩) rfl s).trans
          (if_pos (senseConfig_refuses_iff.mpr hnot)))
    · exact exec_of_answer haccepts rfl ((senseConfigClaim_in_range hn s).trans
        (if_neg fun h => senseConfig_refuses_iff.mp h hgood))
  · intro s tag k haccepts
    refine ⟨exec_of_refuse haccepts rfl rfl, fun hk => exec_of_refuse haccepts rfl (readStampClaim_out_of_range hk s),
      fun n hn => ?_⟩
    have hclaim := readStampClaim_in_range hn s
    rw [stampImage_eq] at hclaim
    exact exec_of_answer haccepts rfl hclaim

/-! ### Quiesce entry -/

/-- The entry changes the channels and the latch only (R81, R142, R145). -/
theorem State.trip_frame (s : State) :
    s.trip = { s with channels := s.trip.channels, quiesce := { s.quiesce with latch := true } } := by
  unfold State.trip
  split <;> rfl

theorem exec_quiescenFallingEdge {s : State} (h : s.rstn = .high) : exec .quiescenFallingEdge s = .next
    (if s.quiesce.mirror = .low then s else (s.trip.setQuiesce { s.trip.quiesce with mirror := .low }).raise .trip) :=
  next_of_rstn_high h _

theorem exec_quiescenRisingEdge {s : State} (h : s.rstn = .high) :
    exec .quiescenRisingEdge s = .next (s.setQuiesce { s.quiesce with mirror := .high }) := next_of_rstn_high h _

/-- The first byte of QUIESCE_READ (R144). -/
theorem quiesceByte_eq (q : QuiesceControl) : u8 (bit q.latch + 2 * levelBit q.mirror + 4 * bit q.quiesced) =
    (if q.latch = true then 1 else 0) + (if q.mirror = .high then 2 else 0)
      + (if q.latch = true ∨ q.mirror = .low then 4 else 0) := by
  obtain ⟨latch, mirror⟩ := q
  cases latch <;> cases mirror <;> rfl

/-- Settles O47: the entry at the pin and by QUIESCE, the edges that change nothing more, and the bytes of QUIESCE_READ. -/
theorem quiesceEntryMakesChannelsSafe : Obligations.QuiesceEntryMakesChannelsSafe := by
  constructor
  · intro s tag entered
    have hentered : entered s.trip := s.trip_channel
    refine ⟨fun h hmirror => ⟨_, exec_quiescenFallingEdge h, ?_⟩, fun h hmirror => ?_, exec_quiescenRisingEdge,
      fun haccepts => ⟨exec_of_refuse haccepts rfl rfl, s.trip, exec_of_answer haccepts rfl rfl, hentered, s.trip_frame⟩⟩
    · have hedge : (if s.quiesce.mirror = .low then s
          else (s.trip.setQuiesce { s.trip.quiesce with mirror := .low }).raise .trip) =
          { s with channels := s.trip.channels, quiesce := { latch := true, mirror := .low },
                   attention := s.attention.raise .trip } := by
        rw [if_neg (by simp [hmirror]), s.trip_frame]
        rfl
      rw [hedge]
      exact ⟨hentered, rfl⟩
    · rw [exec_quiescenFallingEdge h, if_pos hmirror]
  · intro s tag haccepts
    constructor
    · rw [← quiesceByte_eq]
      exact exec_of_answer haccepts rfl rfl
    · intro hsweep hnot
      obtain ⟨-, hsuspended, -⟩ := hsweep.sweeping_empty hnot
      rw [hsuspended, List.length_nil]

/-! ### Quiesce exit -/

/-- A channel that leaves SAFE takes the steady state that its line gives (R83). -/
theorem Channel.leaveSafe_eq (c : Channel) :
    c.leaveSafe = { c with state := if c.line = c.rest then .rest else .asserted } := by
  have hstate : (if c.line = c.active then ChanState.asserted else .rest) = if c.line = c.rest then .rest else .asserted := by
    rw [Channel.active]
    cases c.line <;> cases c.rest <;> rfl
  rw [Channel.leaveSafe, Channel.settleFromLine, hstate]

theorem State.finish_quiesce (s : State) (i : SlotIx) (r : ActionRecord) (reason : EndReason) :
    (s.finish i r reason).quiesce = s.quiesce := by
  unfold State.finish
  split
  · rfl
  · rw [(s.freeSlot_freed i r).frame]

theorem State.releaseProceed_quiesce (s : State) (i : SlotIx) (r : ActionRecord) (due : Word) :
    (s.releaseProceed i r due).quiesce = s.quiesce := by
  unfold State.releaseProceed
  split
  · exact s.finish_quiesce i r _
  · split
    · exact s.finish_quiesce i r _
    · dsimp only
      split
      · rfl
      · exact State.finish_quiesce _ i _ _

theorem State.releaseOne_quiesce (s : State) (i : SlotIx) : (s.releaseOne i).quiesce = s.quiesce := by
  unfold State.releaseOne
  split
  · split
    · obtain ⟨-, -, -, -, -, -, hquiesce, -⟩ := s.fire_frame _ _
      exact (State.releaseProceed_quiesce _ i _ _).trans hquiesce
    · rfl
  · rfl

theorem State.foldl_releaseOne_quiesce (l : List SlotIx) (s : State) : (l.foldl State.releaseOne s).quiesce = s.quiesce := by
  induction l generalizing s with
  | nil => rfl
  | cons i rest ih => exact (ih _).trans (s.releaseOne_quiesce i)

/-- The exit leaves a part that is not quiesced (R143). -/
theorem State.exitQuiesce_quiesced {s : State} (h : s.quiesce.mirror = .high) : s.exitQuiesce.quiesced = false := by
  have hquiesce : s.exitQuiesce.quiesce = { s.quiesce with latch := false } :=
    State.foldl_releaseOne_quiesce s.table.suspended s.leave
  rw [State.quiesced, hquiesce, QuiesceControl.quiesced, h]
  rfl

theorem exec_resume_of_claim {s t : State} {bytes : List Byte} (h : s.accepts) (tag : Byte) (hmirror : s.quiesce.mirror = .high)
    (hclaim : (if s.quiesce.latch = true then answer s.exitQuiesce [u8 s.table.suspended.length] else answer s [0])
      = answer t bytes) : exec (.resume tag (.fits ())) s = .next (t.answered tag .ok bytes) :=
  exec_of_answer h rfl (show resumeClaim (.fits ()) s = answer t bytes by
    rw [resumeClaim, if_neg (by simp [hmirror])]
    exact hclaim)

/-- Settles O48: RESUME's checks in order, and the exit as the channels leaving SAFE and then the list released. -/
theorem resumeReleasesTheList : Obligations.ResumeReleasesTheList := by
  intro s tag haccepts hinvariant
  refine ⟨fun hlow => exec_of_refuse haccepts rfl (if_pos hlow), fun hhigh => exec_of_refuse haccepts rfl (if_neg (by simp [hhigh])),
    fun hhigh hlatch => exec_resume_of_claim haccepts tag hhigh (if_neg (by simp [hlatch])),
    fun hhigh hlatch => ⟨s.leave, s.exitQuiesce, rfl, fun c => (s.leave_channel c).trans (Channel.leaveSafe_eq _), rfl,
      exec_resume_of_claim haccepts tag hhigh (if_pos hlatch), State.exitQuiesce_quiesced hhigh,
      State.exitQuiesce_suspended hinvariant.collections hinvariant.firings⟩⟩

/-! ### The causes -/

/-- A report makes a level cause pending as its condition stands and counts a rise (R161). -/
theorem CauseState.reported_eq (x : CauseState) (holds : Bool) : x.reported holds = { x with
    pending := holds
    count := if holds = true ∧ x.pending = false then min 255 (x.count + 1) else x.count } := by
  obtain ⟨pending, count, masked⟩ := x
  cases holds <;> cases pending <;> rfl

/-- Settles O50: the laws of a raise, of several, of a report and of the line. -/
theorem causesFollowRaisesAndReports : Obligations.CausesFollowRaisesAndReports := by
  intro a
  refine ⟨a.cause_raise, fun c n _ => a.raiseTimes_eq_iterate c n, fun c d holds => ?_, a.attn_eq_high_iff_cause⟩
  rw [a.cause_report, CauseState.reported_eq]

end Sys2Proof.Machine
end

section
/-! SUPPORT. The decoder's numbers and items against the bytes and codes that spell them (R183, R185), and the spawn-step images
read back (Table 11-3). -/

namespace Sys2Proof.Machine

/-! ### Numbers in bytes -/

/-- A field of a byte that shows a number holds the number's digits there. -/
theorem bitField_u8 {n lo width : Nat} (h : lo + width ≤ 8) : bitField (u8 n) lo width = n / 2 ^ lo % 2 ^ width := by
  have hpow : 2 ^ 8 = 2 ^ lo * 2 ^ (8 - lo) := by rw [← Nat.pow_add, Nat.add_sub_of_le (by omega)]
  rw [bitField, u8, BitVec.toNat_ofNat, hpow, Nat.mod_mul_right_div_self, Nat.mod_mod_of_dvd _ (Nat.pow_dvd_pow 2 (by omega))]

theorem bitField_eq_extractLsb' (b : Byte) (lo width : Nat) : bitField b lo width = (b.extractLsb' lo width).toNat := by
  rw [bitField, BitVec.extractLsb'_toNat, Nat.shiftRight_eq_div_pow]

theorem bitField_eq_bit (b : Byte) (k : Nat) : bitField b k 1 = bit (b.getLsbD k) := by
  rw [bitField, BitVec.getLsbD, Nat.testBit_eq_decide_div_mod_eq, bit]
  split <;> simp_all

theorem u8_toNat {n : Nat} (h : n < 256) : (u8 n).toNat = n := by
  rw [u8, BitVec.toNat_ofNat]
  exact Nat.mod_eq_of_lt h

theorem num16_be16 {n : Nat} (h : n < 2 ^ 16) : num16 (u8 (n / 256)) (u8 n) = n := by
  simp only [num16, u8, BitVec.toNat_ofNat]
  omega

theorem num32_be32 {n : Nat} (h : n < 2 ^ 32) : num32 (u8 (n / 2 ^ 24)) (u8 (n / 2 ^ 16)) (u8 (n / 2 ^ 8)) (u8 n) = n := by
  simp only [num32, u8, BitVec.toNat_ofNat]
  omega

theorem fitsBits_iff {bits n : Nat} : fitsBits bits n = true ↔ n < 2 ^ bits := decide_eq_true_iff

/-! ### Codes -/

theorem kindCode_lt (k : Kind) : kindCode k < 6 := by cases k <;> decide
theorem kindOf_kindCode (k : Kind) : kindOf (kindCode k) = some k := by cases k <;> rfl
theorem domainOf_bit (d : Domain) : domainOf (bit (d == .position)) = d := by cases d <;> rfl
theorem boolOf_bit (b : Bool) : boolOf (bit b) = b := by cases b <;> rfl
theorem missOf_bit (m : MissPolicy) : missOf (bit (m == .hold)) = m := by cases m <;> rfl

/-- A direction that bit 5 can spell is read back from it (R185). -/
theorem directionOf_bit {d : Domain} {dir : Option Dir} (h : directionWf d dir = true) :
    directionOf (bit (d == .position)) (bit (dir == some .rev)) = dir := by
  cases d with
  | time =>
    rcases dir with _ | _ | _
    · rfl
    · cases h
    · rfl
  | position =>
    rcases dir with _ | _ | _
    · cases h
    · rfl
    · rfl

theorem nonzero_getD {c : Option Nat} (h : ∀ n, c = some n → 1 ≤ n) : nonzero (c.getD 0) = c := by
  cases c with
  | none => rfl
  | some n => exact if_neg (Nat.one_le_iff_ne_zero.mp (h n rfl))

/-- A channel that four bits can spell is read back from them (R185). -/
theorem channelItem_getD {k : Kind} {c : Option Nat} (h : channelWf k c = true) : channelItem k (c.getD 0) = c := by
  cases k with
  | mark => exact nonzero_getD fun n hn => by simp [channelWf, hn] at h; exact h.1
  | _ =>
    cases c with
    | none => cases h
    | some n => rfl

theorem channel_lt {k : Kind} {c : Option Nat} (h : channelWf k c = true) : c.getD 0 < 16 := by
  cases c with
  | none => decide
  | some n =>
    cases k with
    | mark =>
      obtain ⟨-, hn⟩ := Bool.and_eq_true_iff.mp h
      exact fitsBits_iff.mp hn
    | _ => exact fitsBits_iff.mp h

theorem repeatParts_lt (r : Option RepeatItems) : (repeatParts r).1 < 4 := by
  unfold repeatParts
  split <;> simp

/-- A repeat is read back from its code, interval and count (R185). -/
theorem repeatItem_repeatParts (r : Option RepeatItems) :
    repeatItem (repeatParts r).1 (repeatParts r).2.1 (repeatParts r).2.2 = some r := by
  rcases r with _ | ⟨n, _ | _ | _⟩
  · rfl
  · by_cases hn : n = 0 <;> simp [repeatParts, repeatItem, hn]
  · rfl
  · rfl

/-! ### The first two bytes of a record or a step -/

/-- The bits that ARM's record bytes and a step image share hold these items. -/
structure HeadSpelled (i : RecordItems) (b0 b1 : Byte) : Prop where
  domain : bitField b0 4 1 = bit (i.domain == .position)
  direction : bitField b0 5 1 = bit (i.direction == some .rev)
  keep : bitField b0 6 1 = bit i.keep
  miss : bitField b0 7 1 = bit (i.miss == .hold)
  kind : bitField b1 0 3 = kindCode i.kind
  priority : bitField b1 3 2 = i.priority
  rep : bitField b1 5 2 = (repeatParts i.rep).1

theorem headSpelled_u8 {i : RecordItems} {n : Nat} (m : Nat) (hn : n < 16) (hpriority : i.priority < 4) :
    HeadSpelled i (u8 (n + domainBits i.domain i.direction + keepMissBits i.keep i.miss))
      (u8 (kindCode i.kind + 8 * i.priority + 32 * (repeatParts i.rep).1 + 128 * m)) := by
  have hdomain := bit_le_one (i.domain == .position)
  have hdirection := bit_le_one (i.direction == some .rev)
  have hkeep := bit_le_one i.keep
  have hmiss := bit_le_one (i.miss == .hold)
  have hkind := kindCode_lt i.kind
  have hrep := repeatParts_lt i.rep
  unfold domainBits keepMissBits
  constructor <;> rw [bitField_u8 (by decide)] <;> omega

/-- The items that the head spells, beside those that stand elsewhere. -/
theorem HeadSpelled.items_eq {i : RecordItems} {b0 b1 : Byte} (h : HeadSpelled i b0 b1)
    (hdirection : directionWf i.domain i.direction = true) :
    ({ domain := domainOf (bitField b0 4 1), direction := directionOf (bitField b0 4 1) (bitField b0 5 1), kind := i.kind,
       channel := i.channel, width := i.width, burst := i.burst, priority := bitField b1 3 2, rep := i.rep,
       keep := boolOf (bitField b0 6 1), miss := missOf (bitField b0 7 1) } : RecordItems) = i := by
  rw [h.domain, h.direction, h.keep, h.miss, h.priority, domainOf_bit, directionOf_bit hdirection, boolOf_bit, missOf_bit]

/-! ### Spawn steps -/

/-- A step's width or burst is read back (Table 11-3). -/
theorem takeWork_encodeStepWork {i : RecordItems} (h : stepWorkWf i.kind i.width i.burst = true) (rest : List Byte) :
    takeWork i.kind (encodeStepWork i ++ rest) = some (i.width, i.burst, rest) := by
  cases hk : i.kind with
  | pulse =>
    rcases hw : i.width with _ | w <;> simp [stepWorkWf, hk, hw, fitsBits_iff] at h
    simp [encodeStepWork, takeWork, hk, hw, be16, h.2, num16_be16 h.1]
  | burst =>
    rcases hb : i.burst with _ | b <;> simp [stepWorkWf, hk, hb, BurstItems.wf, fitsBits_iff] at h
    obtain ⟨hwidth, ⟨hhigh, hlow⟩, hcycles⟩ := h
    simp [encodeStepWork, takeWork, hk, hb, be16, hwidth, u8_toNat hhigh, u8_toNat hlow, num16_be16 hcycles]
  | _ =>
    simp [stepWorkWf, hk] at h
    simp [encodeStepWork, takeWork, hk, h]

/-- A repeat of a step that its image can spell. -/
def StepRepeatWf (r : Option RepeatItems) : Prop := ∀ x, r = some x → x.wf = true ∧ x.run.isSome = true

/-- A step's repeat is read back (Table 11-3). -/
theorem takeRepeat_encodeStepRepeat {r : Option RepeatItems} (h : StepRepeatWf r) (rest : List Byte) :
    takeRepeat (repeatParts r).1 (encodeStepRepeat r ++ rest) = some (r, rest) := by
  rcases r with _ | ⟨n, run⟩
  · rfl
  · obtain ⟨hwf, hrun⟩ := h _ rfl
    rcases run with _ | k | _
    · cases hrun
    · obtain ⟨hn, hk⟩ := Bool.and_eq_true_iff.mp hwf
      simp only [repeatParts, encodeStepRepeat, takeRepeat, be32, be16, List.cons_append, List.nil_append,
        num32_be32 (fitsBits_iff.mp hn), num16_be16 (fitsBits_iff.mp hk)]
    · obtain ⟨hn, -⟩ := Bool.and_eq_true_iff.mp hwf
      simp only [repeatParts, encodeStepRepeat, takeRepeat, be32, List.cons_append, List.nil_append,
        num32_be32 (fitsBits_iff.mp hn)]

/-- What a well-formed step's items meet, each for itself. -/
theorem StepItems.wf_iff {x : StepItems} : x.wf = true ↔ x.offset < 2 ^ 32
    ∧ (directionWf x.items.domain x.items.direction = true ∧ channelWf x.items.kind x.items.channel = true
      ∧ x.items.priority < 4) ∧ stepWorkWf x.items.kind x.items.width x.items.burst = true ∧ StepRepeatWf x.items.rep := by
  have hrep : StepRepeatWf x.items.rep ↔ (x.items.rep.map (·.wf)).getD true = true
      ∧ (x.items.rep.map (fun r => r.run.isSome)).getD true = true := by cases x.items.rep <;> simp [StepRepeatWf]
  simp only [StepItems.wf, RecordItems.commonWf, Bool.and_eq_true, fitsBits_iff, hrep]
  tauto

/-- A step image is read back as the step it was written from (Table 11-3). -/
theorem takeStep_encodeStep {x : StepItems} (h : x.wf = true) (rest : List Byte) :
    takeStep (encodeStep x ++ rest) = some (x, rest) := by
  obtain ⟨hoffset, ⟨hdirection, hchannel, hpriority⟩, hwork, hrep⟩ := StepItems.wf_iff.mp h
  obtain ⟨offset, i⟩ := x
  dsimp only at hoffset hdirection hchannel hpriority hwork hrep
  have hchannel16 := channel_lt hchannel
  have hhead := headSpelled_u8 (i := i) 0 hchannel16 hpriority
  rw [Nat.mul_zero, Nat.add_zero] at hhead
  have hdomain := bit_le_one (i.domain == .position)
  have hdir := bit_le_one (i.direction == some .rev)
  have hkeep := bit_le_one i.keep
  have hmiss := bit_le_one (i.miss == .hold)
  have hkind := kindCode_lt i.kind
  have hcode := repeatParts_lt i.rep
  have hclear : bitField (u8 (kindCode i.kind + 8 * i.priority + 32 * (repeatParts i.rep).1)) 7 1 = 0 := by
    rw [bitField_u8 (by decide)]
    omega
  have hfield : bitField (u8 (i.channel.getD 0 + domainBits i.domain i.direction + keepMissBits i.keep i.miss)) 0 4 =
      i.channel.getD 0 := by
    rw [bitField_u8 (by decide)]
    simp only [domainBits, keepMissBits]
    omega
  have hbytes : encodeStep ⟨offset, i⟩ ++ rest =
      u8 (i.channel.getD 0 + domainBits i.domain i.direction + keepMissBits i.keep i.miss)
        :: u8 (kindCode i.kind + 8 * i.priority + 32 * (repeatParts i.rep).1)
        :: u8 (offset / 2 ^ 24) :: u8 (offset / 2 ^ 16) :: u8 (offset / 2 ^ 8) :: u8 offset
        :: (encodeStepWork i ++ (encodeStepRepeat i.rep ++ rest)) := by simp [encodeStep, be32]
  have hitems := hhead.items_eq hdirection
  rw [hbytes]
  simp only [takeStep, hhead.kind, kindOf_kindCode, hclear, takeWork_encodeStepWork hwork, hhead.rep,
    takeRepeat_encodeStepRepeat hrep, hfield, channelItem_getD hchannel, num32_be32 hoffset, hitems, zero_ne_one, if_false]

theorem encodeStep_ne_nil (x : StepItems) : encodeStep x ≠ [] := by simp [encodeStep]

/-- At most `n` well-formed steps, one image after another, are read back as those steps (Table 11-3, R185). -/
theorem takeSteps_flatMap_encodeStep {n : Nat} {l : List StepItems} (hlength : l.length ≤ n) (h : ∀ x ∈ l, x.wf = true) :
    takeSteps n (l.flatMap encodeStep) = some l := by
  induction l generalizing n with
  | nil => cases n <;> rfl
  | cons x l ih =>
    obtain ⟨k, rfl⟩ : ∃ k, n = k + 1 := ⟨n - 1, by rw [List.length_cons] at hlength; omega⟩
    obtain ⟨b, bytes, hb⟩ : ∃ b bytes, encodeStep x ++ l.flatMap encodeStep = b :: bytes :=
      List.exists_cons_of_ne_nil (by simp [encodeStep_ne_nil])
    have hstep := takeStep_encodeStep (h x List.mem_cons_self) (l.flatMap encodeStep)
    have hrest := ih (Nat.le_of_succ_le_succ hlength) fun y hy => h y (List.mem_cons_of_mem x hy)
    rw [List.flatMap_cons, hb, takeSteps, ← hb, hstep]
    simp only [hrest, Option.map_some]

/-! ### The steps that BIND_READ shows -/

/-- A work as the kind, the channel, the width and the burst that give it (R89). -/
def Work.kind : Work → Kind
  | .mark => .mark
  | .onChannel _ .assert => .assert
  | .onChannel _ .release => .release
  | .onChannel _ .toggle => .toggle
  | .onChannel _ (.pulse _) => .pulse
  | .onChannel _ (.burst _) => .burst

def Work.channelItem : Work → Option Nat
  | .mark => none
  | .onChannel c _ => some c.val

def Work.width : Work → Option Nat
  | .onChannel _ (.pulse w) => some w
  | _ => none

def Work.burst : Work → Option BurstItems
  | .onChannel _ (.burst b) => some { high := b.high, low := b.low, cycles := b.cycles }
  | _ => none

def Base.direction : Base → Option Dir
  | .time => none
  | .position d => some d

/-- A repeat field as the item that gives it. -/
def Repeat.items (x : Repeat) : RepeatItems :=
  { interval := x.interval, run := some (match x.remaining with
      | some n => .counted n
      | none => .endless) }

/-- A spawn step as the items that give it (R123). -/
def SpawnStep.items (y : SpawnStep) : StepItems where
  offset := y.offset
  items :=
    { domain := y.what.base.domain, direction := Base.direction y.what.base, kind := Work.kind y.what.work
      channel := Work.channelItem y.what.work, width := Work.width y.what.work, burst := Work.burst y.what.work
      priority := y.what.priority.val, rep := y.what.rep.map Repeat.items, keep := y.what.keep, miss := y.what.miss }

theorem Repeat.items_gives (x : Repeat) : RepeatItemsGive x.items x := by
  obtain ⟨n, _ | k⟩ := x <;> simp [RepeatItemsGive, Repeat.items]

theorem Repeat.items_inRange {x : Repeat} {d : Domain} (h : x.inRange d) : x.items.InRange d := by
  obtain ⟨n, _ | k⟩ := x <;> simp [RepeatItems.InRange, Repeat.items, Repeat.inRange] at h ⊢ <;> tauto

/-- A step in range is what its items give (R123). -/
theorem checkStep_items {y : SpawnStep} (h : y.what.InRange) (h1 : 1 ≤ y.offset)
    (hhorizon : y.offset ≤ Config.horizon y.what.base.domain) : checkStep y.items = some y := by
  refine checkStep_eq_some_iff.mpr ⟨checkRecord_eq_some_iff.mpr ⟨?base, ?work, rfl, ?rep, rfl, rfl⟩, ⟨h1, hhorizon⟩, rfl⟩
  case base => rcases hb : y.what.base with _ | d <;> simp [SpawnStep.items, hb, checkBase, Base.domain, Base.direction]
  case work =>
    have hrange := h.work
    have hfin (c : ChannelIx) : finOf 16 c.val = some c := finOf_eq_some.mpr rfl
    rcases hw : y.what.work with _ | ⟨c, _ | _ | _ | w | b⟩ <;> rw [hw] at hrange
    case onChannel.pulse =>
      simp [SpawnStep.items, hw, Work.kind, Work.channelItem, Work.width, Work.burst, checkWork, hfin,
        widthInRange_iff.mpr hrange]
    case onChannel.burst =>
      have hburst : burstInRange { high := b.high, low := b.low, cycles := b.cycles } = true := by
        rw [burstInRange_iff]
        exact hrange
      simp [SpawnStep.items, hw, Work.kind, Work.channelItem, Work.width, Work.burst, checkWork, hfin, hburst]
    all_goals simp [SpawnStep.items, hw, Work.kind, Work.channelItem, Work.width, Work.burst, checkWork, hfin]
  case rep =>
    rcases hr : y.what.rep with _ | x
    · simp [SpawnStep.items, hr, checkRepeat]
    · have hitem : y.items.items.rep = some x.items := by simp [SpawnStep.items, hr]
      rw [hitem]
      exact checkRepeat_some_iff.mpr ⟨x, rfl, Repeat.items_inRange (h.rep x hr), x.items_gives⟩

end Sys2Proof.Machine
end

section
/-! PROOF. The step images that BIND_READ shows, read back by BIND_WRITE (R123, R130, Table 11-3). -/

namespace Sys2Proof.Machine

theorem workCode_eq (w : Work) : kindCode (Work.kind w) = workCode w := by
  rcases w with _ | ⟨c, _ | _ | _ | _ | _⟩ <;> rfl

theorem channelCode_eq (w : Work) : (Work.channelItem w).getD 0 = channelCode w := by cases w <;> rfl

theorem repeatCode_eq (r : Option Repeat) : (repeatParts (r.map Repeat.items)).1 = repeatCode r := by
  rcases r with _ | ⟨n, _ | k⟩ <;> rfl

/-- A template's bits as those of its items (Table 11-2). -/
theorem templateBits_eq_items (w : Template) :
    domainBits w.base.domain (Base.direction w.base) + keepMissBits w.keep w.miss = templateBits w := by
  rw [templateBits, keepMissBits, Nat.add_assoc]
  rcases w.base with _ | _ | _ <;> rfl

theorem encodeStepWork_items (y : SpawnStep) : encodeStepWork y.items.items = stepWorkBytes y.what.work := by
  rcases hw : y.what.work with _ | ⟨c, _ | _ | _ | _ | _⟩ <;>
    simp [encodeStepWork, SpawnStep.items, hw, Work.kind, Work.width, Work.burst, stepWorkBytes]

theorem encodeStepRepeat_items (r : Option Repeat) : encodeStepRepeat (r.map Repeat.items) = stepRepeatBytes r := by
  rcases r with _ | ⟨n, _ | k⟩ <;> rfl

/-- BIND_READ's image of a step is BIND_WRITE's spelling of its items (Table 11-3). -/
theorem encodeStep_items (y : SpawnStep) : encodeStep y.items = stepImage y := by
  have hfirst : (Work.channelItem y.what.work).getD 0 + domainBits y.what.base.domain (Base.direction y.what.base)
      + keepMissBits y.what.keep y.what.miss = channelCode y.what.work + templateBits y.what := by
    rw [Nat.add_assoc, channelCode_eq, templateBits_eq_items]
  have hsecond : kindCode (Work.kind y.what.work) + 8 * y.what.priority.val
      + 32 * (repeatParts (y.what.rep.map Repeat.items)).1 = kindBits y.what := by rw [workCode_eq, repeatCode_eq, kindBits]
  calc encodeStep y.items
      = [u8 ((Work.channelItem y.what.work).getD 0 + domainBits y.what.base.domain (Base.direction y.what.base)
            + keepMissBits y.what.keep y.what.miss),
          u8 (kindCode (Work.kind y.what.work) + 8 * y.what.priority.val
            + 32 * (repeatParts (y.what.rep.map Repeat.items)).1)]
          ++ be32 y.offset ++ encodeStepWork y.items.items ++ encodeStepRepeat (y.what.rep.map Repeat.items) := rfl
    _ = stepImage y := by rw [hfirst, hsecond, encodeStepWork_items, encodeStepRepeat_items, stepImage]

theorem horizon_le (d : Domain) : Config.horizon d ≤ 2 ^ 30 := by cases d <;> decide

/-- The items of a step in range fit their bytes (Table 11-3). -/
theorem items_wf {y : SpawnStep} (h : y.what.InRange) (hhorizon : y.offset ≤ Config.horizon y.what.base.domain) :
    y.items.wf = true := by
  have hbound := horizon_le y.what.base.domain
  refine StepItems.wf_iff.mpr ⟨?offset, ⟨?direction, ?channel, y.what.priority.isLt⟩, ?work, fun x hx => ?rep⟩
  case offset => exact lt_of_le_of_lt (hhorizon.trans hbound) (by decide)
  case direction => rcases hb : y.what.base with _ | d <;> simp [SpawnStep.items, hb, Base.domain, Base.direction, directionWf]
  case channel =>
    rcases hw : y.what.work with _ | ⟨c, _ | _ | _ | _ | _⟩ <;>
      simp [SpawnStep.items, hw, Work.kind, Work.channelItem, channelWf, fitsBits_iff]
  case work =>
    have hrange := h.work
    rcases hw : y.what.work with _ | ⟨c, _ | _ | _ | w | b⟩ <;> rw [hw] at hrange
    case onChannel.pulse =>
      obtain ⟨-, hw16⟩ := hrange
      simp [SpawnStep.items, hw, Work.kind, Work.width, Work.burst, stepWorkWf, fitsBits_iff]
      omega
    case onChannel.burst =>
      obtain ⟨-, hhigh, -, hlow, -, hcycles⟩ := hrange
      simp [SpawnStep.items, hw, Work.kind, Work.width, Work.burst, stepWorkWf, BurstItems.wf, fitsBits_iff]
      omega
    all_goals simp [SpawnStep.items, hw, Work.kind, Work.width, Work.burst, stepWorkWf]
  case rep =>
    obtain ⟨z, hz, rfl⟩ := Option.map_eq_some_iff.mp hx
    obtain ⟨-, hinterval, hcount⟩ := h.rep z hz
    have hn : z.interval < 2 ^ 32 := by omega
    obtain ⟨n, _ | k⟩ := z
    · exact ⟨Bool.and_eq_true_iff.mpr ⟨fitsBits_iff.mpr hn, rfl⟩, rfl⟩
    · exact ⟨Bool.and_eq_true_iff.mpr ⟨fitsBits_iff.mpr hn, fitsBits_iff.mpr (by have := hcount k rfl; omega)⟩, rfl⟩

/-- BIND_WRITE reads its step images after its first two bytes (R125). -/
theorem decodeRequest_bindWrite (tag b n : Byte) {images : List Byte} {steps : List StepItems}
    (h : takeSteps 4 images = some steps) : decodeRequest 0x71 tag (b :: n :: images) =
      .bindWrite tag (.fits { binding := b.toNat, input := n.toNat, steps := steps }) := by
  have hdecode : decodeRequest 0x71 tag (b :: n :: images) = .bindWrite tag (decodeBindWrite (b :: n :: images)) := rfl
  simp only [hdecode, decodeBindWrite, h]

/-- Settles O16: the images spell the items that give the steps, and so are read back as those. -/
theorem stepImagesReadBackAsWritten : Obligations.StepImagesReadBackAsWritten := by
  intro steps hlength hrange
  have himages : steps.flatMap stepImage = (steps.map SpawnStep.items).flatMap encodeStep := by
    rw [List.flatMap_map]
    exact List.flatMap_congr fun y _ => (encodeStep_items y).symm
  have htake : takeSteps 4 (steps.flatMap stepImage) = some (steps.map SpawnStep.items) := by
    rw [himages]
    refine takeSteps_flatMap_encodeStep (by simpa using hlength) fun x hx => ?_
    obtain ⟨y, hy, rfl⟩ := List.mem_map.mp hx
    obtain ⟨hinrange, -, hhorizon⟩ := hrange y hy
    exact items_wf hinrange hhorizon
  refine ⟨steps.map SpawnStep.items, htake, checkSteps_eq_some_iff.mpr ?_, fun tag b n => decodeRequest_bindWrite tag b n htake⟩
  rw [List.forall₂_map_left_iff, List.forall₂_same]
  intro y hy
  obtain ⟨hinrange, h1, hhorizon⟩ := hrange y hy
  exact checkStep_items hinrange h1 hhorizon

end Sys2Proof.Machine
end

section
/-! SUPPORT. The 17 record bytes of ARM and AMEND read back (R183, R185, Table 11-2): what bytes that spell given items decode to,
that the encoder's bytes spell them, and that bytes laid out by the table do. -/

namespace Sys2Proof.Machine

/-! ### Bytes of a layout -/

/-- Record bytes are 17 bytes, each for itself (Table 11-2). -/
theorem exists_bytes_of_length {p : List Byte} (h : p.length = 17) : ∃ b0 b1 b2 b3 b4 b5 b6 b7 b8 b9 b10 b11 b12 b13 b14 b15 b16,
    p = [b0, b1, b2, b3, b4, b5, b6, b7, b8, b9, b10, b11, b12, b13, b14, b15, b16] :=
  match p, h with
  | [_, _, _, _, _, _, _, _, _, _, _, _, _, _, _, _, _], _ =>
    ⟨_, _, _, _, _, _, _, _, _, _, _, _, _, _, _, _, _, rfl⟩

theorem getD_take_drop {p : List Byte} {k m j : Nat} (hj : j < m) : ((p.drop k).take m).getD j 0 = p.getD (k + j) 0 := by
  simp [List.getD_eq_getElem?_getD, hj]

/-- Two bytes laid out as a number are read as it (R183). -/
theorem num16_of_twoBytes {p rest : List Byte} {k m n : Nat} (hm : 2 ≤ m) (hn : n ≤ 65535)
    (h : (p.drop k).take m = twoBytes n ++ rest) : num16 (p.getD k 0) (p.getD (k + 1) 0) = n := by
  have h0 : p.getD k 0 = u8 (n / 256) := by
    rw [← Nat.add_zero k, ← getD_take_drop (m := m) (by omega), h]
    rfl
  have h1 : p.getD (k + 1) 0 = u8 n := by
    rw [← getD_take_drop (m := m) (by omega), h]
    rfl
  rw [h0, h1, num16_be16 (by omega)]

/-- Four bytes laid out as a word are read as it (R183). -/
theorem num32_of_wordBytes {p rest : List Byte} {k m : Nat} {v : Word} (hm : 4 ≤ m) (h : (p.drop k).take m = wordBytes v ++ rest) :
    num32 (p.getD k 0) (p.getD (k + 1) 0) (p.getD (k + 2) 0) (p.getD (k + 3) 0) = v.toNat := by
  rw [← beWord_eq_wordBytes] at h
  have h0 : p.getD k 0 = u8 (v.toNat / 2 ^ 24) := by
    rw [← Nat.add_zero k, ← getD_take_drop (m := m) (by omega), h]
    rfl
  have h1 : p.getD (k + 1) 0 = u8 (v.toNat / 2 ^ 16) := by
    rw [← getD_take_drop (m := m) (by omega), h]
    rfl
  have h2 : p.getD (k + 2) 0 = u8 (v.toNat / 2 ^ 8) := by
    rw [← getD_take_drop (m := m) (by omega), h]
    rfl
  have h3 : p.getD (k + 3) 0 = u8 v.toNat := by
    rw [← getD_take_drop (m := m) (by omega), h]
    rfl
  rw [h0, h1, h2, h3, num32_be32 v.isLt]

theorem bitField_of_extractLsb' {b : Byte} {lo width v : Nat} (h : b.extractLsb' lo width = BitVec.ofNat width v)
    (hv : v < 2 ^ width) : bitField b lo width = v := by
  rw [bitField_eq_extractLsb', h, BitVec.toNat_ofNat, Nat.mod_eq_of_lt hv]

theorem bitField_of_getLsbD {b : Byte} {k : Nat} {v : Bool} (h : b.getLsbD k = v) : bitField b k 1 = bit v := by
  rw [bitField_eq_bit, h]

theorem bitField_of_getLsbD_iff {b : Byte} {k : Nat} {v : Bool} (h : b.getLsbD k = true ↔ v = true) :
    bitField b k 1 = bit v := bitField_of_getLsbD (Bool.eq_iff_iff.mpr h)

/-! ### ARM -/

/-- The 17 record bytes spell the items of an ARM (Table 11-2, R185). -/
structure ArmSpelled (a : ArmItems) (p : List Byte) : Prop where
  length : p.length = 17
  head : HeadSpelled a.items (p.getD 0 0) (p.getD 1 0)
  start : bitField (p.getD 0 0) 0 3 = startCode a.start
  form : bitField (p.getD 0 0) 3 1 = formBit a.form
  absent : bitField (p.getD 1 0) 7 1 = bit a.value.isNone
  channel : bitField (p.getD 2 0) 0 4 = a.items.channel.getD 0
  group : bitField (p.getD 2 0) 4 4 = a.group.getD 0
  due : ∀ v, a.value = some v → num32 (p.getD 3 0) (p.getD 4 0) (p.getD 5 0) (p.getD 6 0) = v.toNat
  interval : num32 (p.getD 7 0) (p.getD 8 0) (p.getD 9 0) (p.getD 10 0) = (repeatParts a.items.rep).2.1
  remaining : num16 (p.getD 11 0) (p.getD 12 0) = (repeatParts a.items.rep).2.2
  work : widthItem a.items.kind (num16 (p.getD 13 0) (p.getD 14 0)) = a.items.width
    ∧ burstItem a.items.kind (num16 (p.getD 13 0) (p.getD 14 0)) (p.getD 15 0).toNat (p.getD 16 0).toNat = a.items.burst

theorem startOf_startCode (x : Start) : startOf (startCode x) = some x := by cases x <;> rfl

theorem formOf_formBit (x : DueForm) : (if formBit x = 0 then DueForm.offset else .absolute) = x := by cases x <;> rfl

/-- What the items of a well-formed ARM meet, each for itself. -/
theorem ArmItems.wf_iff {a : ArmItems} : a.wf = true ↔ (directionWf a.items.domain a.items.direction = true
    ∧ channelWf a.items.kind a.items.channel = true ∧ a.items.priority < 4 ∧ ∀ x, a.items.rep = some x → x.wf = true)
    ∧ armWorkWf a.items.kind a.items.width a.items.burst = true ∧ ∀ g, a.group = some g → 1 ≤ g ∧ g < 16 := by
  have hrep : (a.items.rep.map (·.wf)).getD true = true ↔ ∀ x, a.items.rep = some x → x.wf = true := by
    cases a.items.rep <;> simp
  have hgroup : (a.group.map (fun g => 1 ≤ g && fitsBits 4 g)).getD true = true ↔ ∀ g, a.group = some g → 1 ≤ g ∧ g < 16 := by
    cases a.group <;> simp [fitsBits_iff]
  simp only [ArmItems.wf, RecordItems.commonWf, Bool.and_eq_true, fitsBits_iff, hrep, hgroup]
  tauto

/-- Bytes that spell an ARM's items decode to them (R185). -/
theorem decodeArm_of_spelled {a : ArmItems} {p : List Byte} (h : ArmSpelled a p)
    (hdirection : directionWf a.items.domain a.items.direction = true)
    (hchannel : channelWf a.items.kind a.items.channel = true) (hgroup : ∀ g, a.group = some g → 1 ≤ g) :
    decodeArm p = .fits a := by
  obtain ⟨hlength, hhead, hstart, hform, habsent, hchannelField, hgroupField, hdue, hinterval, hremaining, hwidth, hburst⟩ := h
  obtain ⟨b0, b1, b2, b3, b4, b5, b6, b7, b8, b9, b10, b11, b12, b13, b14, b15, b16, rfl⟩ := exists_bytes_of_length hlength
  simp only [List.getD_cons_zero, List.getD_cons_succ] at *
  have hvalue : (if bitField b1 7 1 = 0 then some (BitVec.ofNat 32 (num32 b3 b4 b5 b6)) else none) = a.value := by
    rw [habsent]
    cases hv : a.value with
    | none => rfl
    | some v => simp [hdue v hv, bit]
  have hitems := hhead.items_eq hdirection
  simp only [decodeArm, hstart, startOf_startCode, hhead.kind, kindOf_kindCode, hhead.rep, hinterval, hremaining,
    repeatItem_repeatParts, hform, formOf_formBit, hvalue, hchannelField, channelItem_getD hchannel, hwidth, hburst, hgroupField,
    nonzero_getD hgroup, hitems]

theorem decodeArm_of_length_ne {p : List Byte} (h : p.length ≠ 17) : decodeArm p = .unfit := by
  unfold decodeArm
  split
  · exact absurd rfl h
  · rfl

/-- The cycles or the width as record bytes 13 and 14 (Table 11-2). -/
def workNumber (i : RecordItems) : Nat :=
  match i.kind, i.burst with
  | .burst, some b => b.cycles
  | _, _ => i.width.getD 0

/-- Width and burst as ARM spells them are read back (R185). -/
theorem armWork_of_wf {i : RecordItems} (h : armWorkWf i.kind i.width i.burst = true) :
    workNumber i < 2 ^ 16 ∧ (i.burst.map (·.high)).getD 0 < 256 ∧ (i.burst.map (·.low)).getD 0 < 256
    ∧ widthItem i.kind (workNumber i) = i.width
    ∧ burstItem i.kind (workNumber i) ((i.burst.map (·.high)).getD 0) ((i.burst.map (·.low)).getD 0) = i.burst := by
  have hother (hk : i.kind ≠ .burst) (hw : (i.width.map (fun w => 1 ≤ w && fitsBits 16 w)).getD true = true)
      (hb : (i.burst.map (fun b => b.wf && b.cycles == 0 && !(b.high == 0 && b.low == 0))).getD true = true) :
      workNumber i < 2 ^ 16 ∧ (i.burst.map (·.high)).getD 0 < 256 ∧ (i.burst.map (·.low)).getD 0 < 256
      ∧ nonzero (workNumber i) = i.width ∧ (if (i.burst.map (·.high)).getD 0 = 0 ∧ (i.burst.map (·.low)).getD 0 = 0 then none
        else some { high := (i.burst.map (·.high)).getD 0, low := (i.burst.map (·.low)).getD 0, cycles := 0 }) = i.burst := by
    have hnumber : workNumber i = i.width.getD 0 := by
      unfold workNumber
      split
      · next hkind _ => exact absurd hkind hk
      · rfl
    have hwidth : ∀ w, i.width = some w → 1 ≤ w ∧ w < 2 ^ 16 := fun w e => by simpa [e, fitsBits_iff] using hw
    refine ⟨?_, ?_⟩
    · rw [hnumber]
      cases hwid : i.width with
      | none => decide
      | some w => exact (hwidth w hwid).2
    · rw [hnumber, nonzero_getD fun w e => (hwidth w e).1]
      cases hbur : i.burst with
      | none => simp
      | some b =>
        obtain ⟨high, low, cycles⟩ := b
        simp [hbur, BurstItems.wf, fitsBits_iff] at hb
        obtain ⟨⟨⟨⟨hhigh, hlow⟩, -⟩, rfl⟩, hcarrier⟩ := hb
        simpa [hhigh, hlow, imp_iff_not_or] using hcarrier
  cases hk : i.kind with
  | burst =>
    rcases hb : i.burst with _ | b <;> simp [armWorkWf, hk, hb, BurstItems.wf, fitsBits_iff] at h
    obtain ⟨hwidth, ⟨hhigh, hlow⟩, hcycles⟩ := h
    have hnumber : workNumber i = b.cycles := by simp [workNumber, hk, hb]
    rw [hnumber]
    simp [widthItem, burstItem, hwidth, hhigh, hlow, hcycles]
  | _ =>
    simp only [armWorkWf, hk, Bool.and_eq_true] at h
    obtain ⟨hw, hb⟩ := h
    exact hother (by simp [hk]) hw hb

theorem getD_zero_lt {g : Option Nat} {bound : Nat} (hpos : 0 < bound) (h : ∀ n, g = some n → n < bound) : g.getD 0 < bound := by
  cases g with
  | none => exact hpos
  | some n => exact h n rfl

/-- The interval and count of a repeat that fit their bytes. -/
theorem repeatParts_fit {r : Option RepeatItems} (h : ∀ x, r = some x → x.wf = true) :
    (repeatParts r).2.1 < 2 ^ 32 ∧ (repeatParts r).2.2 < 2 ^ 16 := by
  rcases r with _ | ⟨n, run⟩
  · decide
  · obtain ⟨hn, hk⟩ := Bool.and_eq_true_iff.mp (h _ rfl)
    have hn' : n < 2 ^ 32 := fitsBits_iff.mp hn
    rcases run with _ | k | _
    · exact ⟨hn', by simp only [repeatParts]; split <;> decide⟩
    · exact ⟨hn', fitsBits_iff.mp hk⟩
    · exact ⟨hn', Nat.two_pow_pos 16⟩

/-- The encoder's bytes spell the items of a well-formed ARM (Table 11-2). -/
theorem encodeArm_spelled {a : ArmItems} (h : a.wf = true) : ArmSpelled a (encodeArm a) := by
  obtain ⟨⟨hdirection, hchannel, hpriority, hrep⟩, hwork, hgroup⟩ := ArmItems.wf_iff.mp h
  have hchannel16 := channel_lt hchannel
  have hgroup16 : a.group.getD 0 < 16 := getD_zero_lt (by decide) fun g hg => (hgroup g hg).2
  obtain ⟨hinterval, hremaining⟩ := repeatParts_fit hrep
  obtain ⟨hnumber, hhigh, hlow, hwidth, hburst⟩ := armWork_of_wf hwork
  have hstart : startCode a.start < 8 := by cases a.start <;> decide
  have hform : formBit a.form < 2 := by cases a.form <;> decide
  have hhead := headSpelled_u8 (i := a.items) (n := startCode a.start + 8 * formBit a.form) (bit a.value.isNone) (by omega) hpriority
  have habsent := bit_le_one a.value.isNone
  have hkind := kindCode_lt a.items.kind
  have hcode := repeatParts_lt a.items.rep
  have hdomain := bit_le_one (a.items.domain == .position)
  have hrev := bit_le_one (a.items.direction == some .rev)
  have hkeep := bit_le_one a.items.keep
  have hmiss := bit_le_one (a.items.miss == .hold)
  have h0 : (encodeArm a).getD 0 0 = u8 (startCode a.start + 8 * formBit a.form + domainBits a.items.domain a.items.direction
      + keepMissBits a.items.keep a.items.miss) := rfl
  have h1 : (encodeArm a).getD 1 0 = u8 (kindCode a.items.kind + 8 * a.items.priority + 32 * (repeatParts a.items.rep).1
      + 128 * bit a.value.isNone) := rfl
  have h2 : (encodeArm a).getD 2 0 = u8 (a.items.channel.getD 0 + 16 * a.group.getD 0) := rfl
  have hwork16 : num16 ((encodeArm a).getD 13 0) ((encodeArm a).getD 14 0) = workNumber a.items := num16_be16 hnumber
  have h15 : ((encodeArm a).getD 15 0).toNat = (a.items.burst.map (·.high)).getD 0 := u8_toNat hhigh
  have h16 : ((encodeArm a).getD 16 0).toNat = (a.items.burst.map (·.low)).getD 0 := u8_toNat hlow
  refine ⟨rfl, hhead, ?start, ?form, ?absent, ?channel, ?group, fun v hv => ?due, num32_be32 hinterval, num16_be16 hremaining,
    ?work⟩
  case start =>
    rw [h0, bitField_u8 (by decide)]
    simp only [domainBits, keepMissBits]
    omega
  case form =>
    rw [h0, bitField_u8 (by decide)]
    simp only [domainBits, keepMissBits]
    omega
  case absent =>
    rw [h1, bitField_u8 (by decide)]
    omega
  case channel =>
    rw [h2, bitField_u8 (by decide)]
    omega
  case group =>
    rw [h2, bitField_u8 (by decide)]
    omega
  case due =>
    have hbytes : (encodeArm a).drop 3 = beWord (a.value.getD 0) ++ (encodeArm a).drop 7 := rfl
    rw [beWord_eq_wordBytes, hv] at hbytes
    exact num32_of_wordBytes (rest := []) (m := 4) (le_refl 4) (by rw [hbytes]; rfl)
  case work =>
    rw [hwork16, h15, h16]
    exact ⟨hwidth, hburst⟩

/-- Items that meet R89 are well formed in the bits that spell them. -/
theorem directionWf_of_meets {i : RecordItems} (h : i.Meets) : directionWf i.domain i.direction = true := by
  have hd := h.direction
  cases hdom : i.domain <;> rcases hdir : i.direction with _ | _ | _ <;> simp [hdom, hdir] at hd <;> rfl

theorem channelWf_of_meets {i : RecordItems} (h : i.Meets) : channelWf i.kind i.channel = true := by
  cases hk : i.kind with
  | mark => rw [h.no_channel hk]; rfl
  | _ =>
    obtain ⟨c, hc, hc15⟩ := h.channel (by simp [hk])
    rw [hc]
    exact fitsBits_iff.mpr (by omega)

/-- A repeat that meets R89 fits its bytes. -/
theorem repeat_fits_of_meets {i : RecordItems} (h : i.Meets) {x : RepeatItems} (hx : i.rep = some x) :
    x.interval < 2 ^ 32 ∧ (x.run = some .endless ∨ ∃ n, n ≤ 65535 ∧ x.run = some (.counted n)) := by
  obtain ⟨-, hinterval, hrun⟩ := h.rep x hx
  have hbound := horizon_le i.domain
  exact ⟨by omega, hrun⟩

section
variable {a : ArmItems} {p : List Byte} (hmeets : a.Meets) (h : ArmLaid a p)
include hmeets h

/-- The items of bytes 0 and 1 (Table 11-2). -/
theorem headSpelled_of_laid : HeadSpelled a.items (p.getD 0 0) (p.getD 1 0) where
  domain := bitField_of_getLsbD_iff (h.domain.trans beq_iff_eq.symm)
  direction := bitField_of_getLsbD_iff (h.direction.trans beq_iff_eq.symm)
  keep := bitField_of_getLsbD h.keep
  miss := bitField_of_getLsbD_iff (h.miss.trans beq_iff_eq.symm)
  kind := bitField_of_extractLsb' (h.kind.trans (by cases a.items.kind <;> rfl))
    ((kindCode_lt _).trans (by decide))
  priority := bitField_of_extractLsb' h.priority (Nat.lt_succ_of_le hmeets.items.priority)
  rep := bitField_of_extractLsb' (h.rep.trans (by rcases a.items.rep with _ | ⟨n, _ | _ | _⟩ <;> rfl)) (repeatParts_lt _)

/-- The repeat's interval and count (Table 11-2). -/
theorem repeatSpelled_of_laid :
    num32 (p.getD 7 0) (p.getD 8 0) (p.getD 9 0) (p.getD 10 0) = (repeatParts a.items.rep).2.1
    ∧ num16 (p.getD 11 0) (p.getD 12 0) = (repeatParts a.items.rep).2.2 := by
  have hinterval := h.interval
  have hremaining := h.remaining
  rcases hr : a.items.rep with _ | ⟨n, run⟩
  · rw [hr] at hinterval hremaining
    exact ⟨num32_of_wordBytes (v := 0) (rest := []) (le_refl 4) hinterval,
      num16_of_twoBytes (n := 0) (rest := []) (le_refl 2) (by decide) hremaining⟩
  · obtain ⟨hn, hrun⟩ := repeat_fits_of_meets hmeets.items hr
    rw [hr] at hinterval hremaining
    have hword := num32_of_wordBytes (rest := []) (le_refl 4) (hinterval.trans (List.append_nil _).symm)
    rw [BitVec.toNat_ofNat, Nat.mod_eq_of_lt hn] at hword
    rcases hrun with rfl | ⟨k, hk, rfl⟩
    · exact ⟨hword, num16_of_twoBytes (n := 0) (rest := []) (le_refl 2) (by decide) hremaining⟩
    · exact ⟨hword, num16_of_twoBytes (rest := []) (le_refl 2) hk (hremaining.trans (List.append_nil _).symm)⟩

/-- The width, or the cycles and the carrier (Table 11-2). -/
theorem workSpelled_of_laid : widthItem a.items.kind (num16 (p.getD 13 0) (p.getD 14 0)) = a.items.width
    ∧ burstItem a.items.kind (num16 (p.getD 13 0) (p.getD 14 0)) (p.getD 15 0).toNat (p.getD 16 0).toNat = a.items.burst := by
  have hitems := hmeets.items
  have hwork := h.work
  have h15 : p.getD 15 0 = ((p.drop 13).take 4).getD 2 0 := (getD_take_drop (k := 13) (m := 4) (j := 2) (by decide)).symm
  have h16 : p.getD 16 0 = ((p.drop 13).take 4).getD 3 0 := (getD_take_drop (k := 13) (m := 4) (j := 3) (by decide)).symm
  cases hk : a.items.kind with
  | pulse =>
    obtain ⟨w, hw, h1, hw16⟩ := hitems.width hk
    have hb := hitems.no_burst (by simp [hk])
    rw [hk, hw, hb] at hwork
    have hnumber := num16_of_twoBytes (m := 4) (by decide) hw16 hwork
    rw [h15, h16, hwork, hnumber, hw, hb]
    exact ⟨if_neg (Nat.one_le_iff_ne_zero.mp h1), rfl⟩
  | burst =>
    obtain ⟨b, hb, -, hhigh, -, hlow, -, hcycles⟩ := hitems.burst hk
    have hw := hitems.no_width (by simp [hk])
    rw [hk, hw, hb] at hwork
    have hnumber := num16_of_twoBytes (m := 4) (by decide) (by omega) hwork
    have hhigh' : (u8 b.high).toNat = b.high := u8_toNat (by omega)
    have hlow' : (u8 b.low).toNat = b.low := u8_toNat (by omega)
    rw [h15, h16, hwork, hnumber, hw, hb]
    refine ⟨rfl, ?_⟩
    rw [show (twoBytes b.cycles ++ [BitVec.ofNat 8 b.high, BitVec.ofNat 8 b.low]).getD 2 0 = u8 b.high from rfl,
      show (twoBytes b.cycles ++ [BitVec.ofNat 8 b.high, BitVec.ofNat 8 b.low]).getD 3 0 = u8 b.low from rfl, hhigh', hlow']
    rfl
  | _ =>
    have hw := hitems.no_width (by simp [hk])
    have hb := hitems.no_burst (by simp [hk])
    rw [hk, hw, hb] at hwork
    have hnumber := num16_of_twoBytes (n := 0) (rest := [0, 0]) (by decide) (by decide) hwork
    rw [h15, h16, hwork, hnumber, hw, hb]
    exact ⟨rfl, rfl⟩

/-- Bytes laid out by Table 11-2 spell the items of an ARM that meets R89. -/
theorem armSpelled_of_laid : ArmSpelled a p where
  length := h.length
  head := headSpelled_of_laid hmeets h
  start := bitField_of_extractLsb' (h.start.trans (by cases a.start <;> rfl)) (by cases a.start <;> decide)
  form := by
    rw [bitField_of_getLsbD_iff (v := a.form == .absolute) (h.form.trans beq_iff_eq.symm)]
    cases a.form <;> rfl
  absent := by
    have hsome : a.value.isNone = false := Option.isNone_eq_false_iff.mpr (Option.isSome_iff_ne_none.mpr hmeets.value)
    rw [bitField_of_getLsbD h.clear, hsome]
  channel := bitField_of_extractLsb' h.channel (channel_lt (channelWf_of_meets hmeets.items))
  group := bitField_of_extractLsb' h.group (getD_zero_lt (by decide) fun g hg => Nat.lt_succ_of_le (hmeets.group g hg).2)
  due v hv := num32_of_wordBytes (rest := []) (le_refl 4) ((h.due v hv).trans (List.append_nil _).symm)
  interval := (repeatSpelled_of_laid hmeets h).1
  remaining := (repeatSpelled_of_laid hmeets h).2
  work := workSpelled_of_laid hmeets h

end

end Sys2Proof.Machine
end

section
/-! SUPPORT. The selection and the record bytes of AMEND read back (R183, R185, Table 11-2): what bytes that spell given items decode
to, that the encoder's bytes spell them, and that bytes laid out by the table do. -/

namespace Sys2Proof.Machine

/-! ### What spells an AMEND's items -/

/-- The selection and the 17 record bytes spell the items of an AMEND; an item that is not selected is not read (R183, R185). -/
structure AmendSpelled (b : AmendBody) (sel : Nat) (p : List Byte) : Prop where
  length : p.length = 17
  clear : sel / 2 ^ 13 = 0
  selected : [b.due.isSome, b.width.isSome, b.burst.isSome, b.priority.isSome, b.rep.isSome, b.keep.isSome, b.miss.isSome,
    b.group.isSome] = (List.range 8).map sel.testBit
  fixed : decide (sel / 2 ^ 8 ≠ 0) = b.namesFixed
  due : ∀ x, b.due = some x → bitField (p.getD 0 0) 3 1 = formBit x.1
    ∧ num32 (p.getD 3 0) (p.getD 4 0) (p.getD 5 0) (p.getD 6 0) = x.2.toNat
  width : ∀ w, b.width = some w → num16 (p.getD 13 0) (p.getD 14 0) = w
  burst : ∀ x, b.burst = some x → num16 (p.getD 13 0) (p.getD 14 0) = x.cycles ∧ (p.getD 15 0).toNat = x.high
    ∧ (p.getD 16 0).toNat = x.low
  priority : ∀ q, b.priority = some q → bitField (p.getD 1 0) 3 2 = q
  rep : ∀ x, b.rep = some x → bitField (p.getD 1 0) 5 2 = (changeParts (some x)).1
    ∧ num32 (p.getD 7 0) (p.getD 8 0) (p.getD 9 0) (p.getD 10 0) = (changeParts (some x)).2.1
    ∧ num16 (p.getD 11 0) (p.getD 12 0) = (changeParts (some x)).2.2
  keep : ∀ k, b.keep = some k → bitField (p.getD 0 0) 6 1 = bit k
  miss : ∀ m, b.miss = some m → bitField (p.getD 0 0) 7 1 = bit (m == .hold)
  group : ∀ g, b.group = some g → bitField (p.getD 2 0) 4 4 = g

theorem selectedItem_eq {α : Type} {sel k : Nat} {x : α} {o : Option α} (hbit : sel.testBit k = o.isSome)
    (h : ∀ y, o = some y → x = y) : selectedItem sel k x = o := by
  rw [selectedItem, hbit]
  cases o with
  | none => rfl
  | some y => rw [h y rfl]; rfl

theorem repeatChange_changeParts (x : RepeatChange) :
    repeatChange (changeParts (some x)).1 (changeParts (some x)).2.1 (changeParts (some x)).2.2 = some x := by
  cases x with
  | remove => rfl
  | set r => simp only [changeParts, repeatChange, repeatItem_repeatParts]

/-- Bytes that spell an AMEND's items decode to them (R185). -/
theorem decodeAmendBody_of_spelled {b : AmendBody} {s1 s0 : Byte} {p : List Byte} (h : AmendSpelled b (num16 s1 s0) p) :
    decodeAmendBody (s1 :: s0 :: p) = .fits b := by
  obtain ⟨hlength, hclear, hselected, hfixed, hdue, hwidth, hburst, hpriority, hrep, hkeep, hmiss, hgroup⟩ := h
  obtain ⟨b0, b1, b2, b3, b4, b5, b6, b7, b8, b9, b10, b11, b12, b13, b14, b15, b16, rfl⟩ := exists_bytes_of_length hlength
  simp only [List.getD_cons_zero, List.getD_cons_succ] at hdue hwidth hburst hpriority hrep hkeep hmiss hgroup
  generalize hsel : num16 s1 s0 = sel at *
  obtain ⟨h0, h1, h2, h3, h4, h5, h6, h7⟩ : sel.testBit 0 = b.due.isSome ∧ sel.testBit 1 = b.width.isSome
      ∧ sel.testBit 2 = b.burst.isSome ∧ sel.testBit 3 = b.priority.isSome ∧ sel.testBit 4 = b.rep.isSome
      ∧ sel.testBit 5 = b.keep.isSome ∧ sel.testBit 6 = b.miss.isSome ∧ sel.testBit 7 = b.group.isSome := by
    simpa [List.range_succ, eq_comm] using hselected
  have hdueItem : selectedItem sel 0 (if bitField b0 3 1 = 0 then DueForm.offset else .absolute,
      BitVec.ofNat 32 (num32 b3 b4 b5 b6)) = b.due := selectedItem_eq h0 fun x hx => by
    obtain ⟨hform, hvalue⟩ := hdue x hx
    rw [hform, hvalue, formOf_formBit, BitVec.ofNat_toNat, BitVec.setWidth_eq]
  have hwidthItem : selectedItem sel 1 (num16 b13 b14) = b.width := selectedItem_eq h1 hwidth
  have hburstItem : selectedItem sel 2 { high := b15.toNat, low := b16.toNat, cycles := num16 b13 b14 } = b.burst :=
    selectedItem_eq h2 fun x hx => by
      obtain ⟨hcycles, hhigh, hlow⟩ := hburst x hx
      rw [hcycles, hhigh, hlow]
  have hpriorityItem : selectedItem sel 3 (bitField b1 3 2) = b.priority := selectedItem_eq h3 hpriority
  have hkeepItem : selectedItem sel 5 (boolOf (bitField b0 6 1)) = b.keep := selectedItem_eq h5 fun k hk => by
    rw [hkeep k hk, boolOf_bit]
  have hmissItem : selectedItem sel 6 (missOf (bitField b0 7 1)) = b.miss := selectedItem_eq h6 fun m hm => by
    rw [hmiss m hm, missOf_bit]
  have hgroupItem : selectedItem sel 7 (bitField b2 4 4) = b.group := selectedItem_eq h7 hgroup
  have hchange : ∀ x, b.rep = some x → repeatChange (bitField b1 5 2) (num32 b7 b8 b9 b10) (num16 b11 b12) = some x :=
    fun x hx => by
      obtain ⟨hcode, hinterval, hremaining⟩ := hrep x hx
      rw [hcode, hinterval, hremaining, repeatChange_changeParts]
  have hrepItem : (if sel.testBit 4 = true then repeatChange (bitField b1 5 2) (num32 b7 b8 b9 b10) (num16 b11 b12) else none)
      = b.rep := by
    rw [h4]
    cases hb : b.rep with
    | none => rfl
    | some x => exact hchange x hb
  have hread : ¬ (sel.testBit 4 && (repeatChange (bitField b1 5 2) (num32 b7 b8 b9 b10) (num16 b11 b12)).isNone) = true := by
    rw [h4]
    cases hb : b.rep with
    | none => exact Bool.false_ne_true
    | some x => simp [hchange x hb]
  simp only [ne_eq] at hfixed
  simp only [decodeAmendBody, hsel, hclear, ne_eq, not_true_eq_false, if_false, if_neg hread, hdueItem, hwidthItem, hburstItem,
    hpriorityItem, hkeepItem, hmissItem, hgroupItem, hrepItem, hfixed]

theorem decodeAmendBody_of_length_ne {p : List Byte} (h : p.length ≠ 19) : decodeAmendBody p = .unfit := by
  unfold decodeAmendBody
  split
  · exact absurd rfl h
  · rfl

/-- A bit of the selection above its thirteen is a fault (R185). -/
theorem decodeAmendBody_of_stray {s1 s0 : Byte} (p : List Byte) (h : num16 s1 s0 / 2 ^ 13 ≠ 0) :
    decodeAmendBody (s1 :: s0 :: p) = .unfit := by
  by_cases hlength : p.length = 17
  · obtain ⟨b0, b1, b2, b3, b4, b5, b6, b7, b8, b9, b10, b11, b12, b13, b14, b15, b16, rfl⟩ := exists_bytes_of_length hlength
    exact if_pos h
  · exact decodeAmendBody_of_length_ne (by simpa using hlength)

/-! ### The encoder's bytes -/

theorem testBit_of_digit {n k : Nat} {b : Bool} (h : n / 2 ^ k % 2 = bit b) : n.testBit k = b := by
  rw [Nat.testBit_eq_decide_div_mod_eq, h]
  cases b <;> rfl

/-- What the items of a well-formed AMEND meet, each for itself. -/
structure AmendFits (b : AmendBody) : Prop where
  width : ∀ w, b.width = some w → w < 2 ^ 16
  burst : ∀ x, b.burst = some x → x.high < 256 ∧ x.low < 256 ∧ x.cycles < 2 ^ 16
  shared : ∀ w x, b.width = some w → b.burst = some x → w = x.cycles
  priority : ∀ q, b.priority = some q → q < 4
  rep : ∀ r, b.rep = some (.set r) → r.wf = true
  group : ∀ g, b.group = some g → g < 16

theorem AmendBody.fits_of_wf {b : AmendBody} (h : b.wf = true) : AmendFits b := by
  simp only [AmendBody.wf, Bool.and_eq_true] at h
  obtain ⟨⟨⟨⟨⟨hwidth, hburst⟩, hshared⟩, hpriority⟩, hrep⟩, hgroup⟩ := h
  refine ⟨fun w hw => ?_, fun x hx => ?_, fun w x hw hx => ?_, fun q hq => ?_, fun r hr => ?_, fun g hg => ?_⟩
  · simpa [hw, fitsBits_iff] using hwidth
  · simpa [hx, BurstItems.wf, fitsBits_iff, and_assoc] using hburst
  · simpa [hw, hx] using hshared
  · simpa [hq, fitsBits_iff] using hpriority
  · simpa [hr] using hrep
  · simpa [hg, fitsBits_iff] using hgroup

theorem selection_lt (b : AmendBody) : selection b < 2 ^ 9 := by
  have h0 := bit_le_one b.due.isSome
  have h1 := bit_le_one b.width.isSome
  have h2 := bit_le_one b.burst.isSome
  have h3 := bit_le_one b.priority.isSome
  have h4 := bit_le_one b.rep.isSome
  have h5 := bit_le_one b.keep.isSome
  have h6 := bit_le_one b.miss.isSome
  have h7 := bit_le_one b.group.isSome
  have h8 := bit_le_one b.namesFixed
  simp only [selection]
  omega

/-- Each bit of the selection stands for its item (R183). -/
theorem selection_digits (b : AmendBody) : [b.due.isSome, b.width.isSome, b.burst.isSome, b.priority.isSome, b.rep.isSome,
    b.keep.isSome, b.miss.isSome, b.group.isSome] = (List.range 8).map (selection b).testBit
    ∧ selection b / 2 ^ 8 = bit b.namesFixed := by
  have h0 := bit_le_one b.due.isSome
  have h1 := bit_le_one b.width.isSome
  have h2 := bit_le_one b.burst.isSome
  have h3 := bit_le_one b.priority.isSome
  have h4 := bit_le_one b.rep.isSome
  have h5 := bit_le_one b.keep.isSome
  have h6 := bit_le_one b.miss.isSome
  have h7 := bit_le_one b.group.isSome
  have h8 := bit_le_one b.namesFixed
  constructor
  · have hbits : (List.range 8).map (selection b).testBit = [(selection b).testBit 0, (selection b).testBit 1,
        (selection b).testBit 2, (selection b).testBit 3, (selection b).testBit 4, (selection b).testBit 5,
        (selection b).testBit 6, (selection b).testBit 7] := rfl
    rw [hbits, testBit_of_digit (b := b.due.isSome), testBit_of_digit (b := b.width.isSome),
      testBit_of_digit (b := b.burst.isSome), testBit_of_digit (b := b.priority.isSome), testBit_of_digit (b := b.rep.isSome),
      testBit_of_digit (b := b.keep.isSome), testBit_of_digit (b := b.miss.isSome), testBit_of_digit (b := b.group.isSome)] <;>
      simp only [selection] <;> omega
  · simp only [selection]
    omega

/-- The encoder's bytes spell the items of a well-formed AMEND (R183, Table 11-2). -/
theorem encodeAmendBody_spelled {b : AmendBody} (h : AmendFits b) :
    AmendSpelled b (selection b) ((encodeAmendBody b).drop 2) := by
  have hsel := selection_lt b
  obtain ⟨hselected, hnames⟩ := selection_digits b
  have hkeep := bit_le_one (b.keep.getD false)
  have hmiss := bit_le_one (b.miss.getD .drop == .hold)
  have hform : formBit ((b.due.map Prod.fst).getD .offset) < 2 := by cases (b.due.map Prod.fst).getD .offset <;> decide
  have hcode : (changeParts b.rep).1 < 4 := by
    rcases b.rep with _ | _ | r
    · decide
    · decide
    · exact repeatParts_lt (some r)
  have hpriority4 : b.priority.getD 0 < 4 := getD_zero_lt (by decide) h.priority
  have hgroup16 : b.group.getD 0 < 16 := getD_zero_lt (by decide) h.group
  have hfit : (changeParts b.rep).2.1 < 2 ^ 32 ∧ (changeParts b.rep).2.2 < 2 ^ 16 := by
    rcases hb : b.rep with _ | _ | r
    · decide
    · decide
    · exact repeatParts_fit fun x hx => by cases hx; exact h.rep r hb
  have hnumber : (b.burst.map (·.cycles)).getD (b.width.getD 0) < 2 ^ 16 := by
    cases hb : b.burst with
    | none => exact getD_zero_lt (by decide) h.width
    | some x => exact (h.burst x hb).2.2
  have h0 : ((encodeAmendBody b).drop 2).getD 0 0 = u8 (8 * formBit ((b.due.map Prod.fst).getD .offset)
      + keepMissBits (b.keep.getD false) (b.miss.getD .drop)) := rfl
  have h1 : ((encodeAmendBody b).drop 2).getD 1 0 = u8 (8 * b.priority.getD 0 + 32 * (changeParts b.rep).1) := rfl
  have h2 : ((encodeAmendBody b).drop 2).getD 2 0 = u8 (16 * b.group.getD 0) := rfl
  have hwork : num16 (((encodeAmendBody b).drop 2).getD 13 0) (((encodeAmendBody b).drop 2).getD 14 0) =
      (b.burst.map (·.cycles)).getD (b.width.getD 0) := num16_be16 hnumber
  refine ⟨rfl, by omega, hselected, ?fixed, fun x hx => ⟨?form, ?due⟩, fun w hw => ?width, fun x hx => ⟨?cycles, ?high, ?low⟩,
    fun q hq => ?priority, fun x hx => ⟨?code, ?interval, ?remaining⟩, fun k hk => ?keep, fun m hm => ?miss, fun g hg => ?group⟩
  case fixed =>
    rw [hnames]
    cases b.namesFixed <;> rfl
  case form =>
    rw [h0, bitField_u8 (by decide)]
    simp only [hx, Option.map_some, Option.getD_some] at hform ⊢
    simp only [keepMissBits]
    omega
  case due =>
    have hbytes : ((encodeAmendBody b).drop 2).drop 3 = beWord ((b.due.map Prod.snd).getD 0) ++ (encodeAmendBody b).drop 9 := rfl
    rw [beWord_eq_wordBytes, hx] at hbytes
    exact num32_of_wordBytes (rest := []) (m := 4) (le_refl 4) (by rw [hbytes]; rfl)
  case width =>
    rw [hwork, hw]
    cases hb : b.burst with
    | none => rfl
    | some x => exact (h.shared w x hw hb).symm
  case cycles => rw [hwork, hx]; rfl
  case high =>
    have hbyte : ((encodeAmendBody b).drop 2).getD 15 0 = u8 ((b.burst.map (·.high)).getD 0) := rfl
    rw [hbyte, hx]
    exact u8_toNat (h.burst x hx).1
  case low =>
    have hbyte : ((encodeAmendBody b).drop 2).getD 16 0 = u8 ((b.burst.map (·.low)).getD 0) := rfl
    rw [hbyte, hx]
    exact u8_toNat (h.burst x hx).2.1
  case priority =>
    rw [h1, bitField_u8 (by decide)]
    rw [hq, Option.getD_some] at hpriority4 ⊢
    omega
  case code =>
    rw [h1, bitField_u8 (by decide)]
    rw [hx] at hcode ⊢
    omega
  case interval => rw [← hx]; exact num32_be32 hfit.1
  case remaining => rw [← hx]; exact num16_be16 hfit.2
  case keep =>
    rw [h0, bitField_u8 (by decide)]
    simp only [hk, Option.getD_some] at hkeep ⊢
    simp only [keepMissBits]
    omega
  case miss =>
    rw [h0, bitField_u8 (by decide)]
    simp only [hm, Option.getD_some] at hmiss ⊢
    simp only [keepMissBits]
    omega
  case group =>
    rw [h2, bitField_u8 (by decide)]
    rw [hg, Option.getD_some] at hgroup16 ⊢
    omega

/-- The encoder's bytes decode to a well-formed AMEND's items (R183, R185). -/
theorem decodeAmendBody_encodeAmendBody {b : AmendBody} (h : b.wf = true) : decodeAmendBody (encodeAmendBody b) = .fits b := by
  have hbytes : encodeAmendBody b = u8 (selection b / 256) :: u8 (selection b) :: (encodeAmendBody b).drop 2 := rfl
  have hsel := selection_lt b
  have hnumber : num16 (u8 (selection b / 256)) (u8 (selection b)) = selection b := num16_be16 (by omega)
  rw [hbytes]
  refine decodeAmendBody_of_spelled ?_
  rw [hnumber]
  exact encodeAmendBody_spelled (AmendBody.fits_of_wf h)

/-! ### Bytes laid out by the table -/

theorem num16_extractLsb' (sel : BitVec 16) : num16 (sel.extractLsb' 8 8) (sel.extractLsb' 0 8) = sel.toNat := by
  have hsel := sel.isLt
  simp only [num16, BitVec.extractLsb'_toNat, Nat.shiftRight_eq_div_pow]
  omega

theorem selection_clear_iff (sel : BitVec 16) : sel.extractLsb' 13 3 = 0 ↔ sel.toNat / 2 ^ 13 = 0 := by
  have hsel := sel.isLt
  rw [← BitVec.toNat_inj, BitVec.extractLsb'_toNat, Nat.shiftRight_eq_div_pow]
  simp
  omega

/-- Bytes laid out by Table 11-2 under their selection spell the items of an AMEND. -/
theorem amendSpelled_of_laid {b : AmendBody} {sel : BitVec 16} {p : List Byte} (h : AmendLaid b sel p) :
    AmendSpelled b sel.toNat p where
  length := h.length
  clear := (selection_clear_iff sel).mp h.clear
  selected := h.selected
  fixed := by
    have hclear := (selection_clear_iff sel).mp h.clear
    have hfield : sel.extractLsb' 8 5 ≠ 0 ↔ sel.toNat / 2 ^ 8 ≠ 0 := by
      rw [Ne, ← BitVec.toNat_inj, BitVec.extractLsb'_toNat, Nat.shiftRight_eq_div_pow]
      simp
      omega
    rw [Bool.eq_iff_iff, decide_eq_true_iff, h.fixed, hfield]
  due x hx := by
    obtain ⟨hform, hvalue⟩ := h.due x.1 x.2 hx
    refine ⟨?_, num32_of_wordBytes (rest := []) (le_refl 4) (hvalue.trans (List.append_nil _).symm)⟩
    rw [bitField_of_getLsbD_iff (v := x.1 == .absolute) (hform.trans beq_iff_eq.symm)]
    cases x.1 <;> rfl
  width w hw := by
    obtain ⟨hw16, hbytes⟩ := h.width w hw
    exact num16_of_twoBytes (rest := []) (le_refl 2) hw16 (hbytes.trans (List.append_nil _).symm)
  burst x hx := by
    obtain ⟨hcycles, hhigh, hlow, hbytes⟩ := h.burst x hx
    have h15 : p.getD 15 0 = u8 x.high :=
      (getD_take_drop (k := 13) (m := 4) (j := 2) (by decide)).symm.trans (congrArg (List.getD · 2 0) hbytes)
    have h16 : p.getD 16 0 = u8 x.low :=
      (getD_take_drop (k := 13) (m := 4) (j := 3) (by decide)).symm.trans (congrArg (List.getD · 3 0) hbytes)
    exact ⟨num16_of_twoBytes (m := 4) (by decide) hcycles hbytes, by rw [h15, u8_toNat (by omega)],
      by rw [h16, u8_toNat (by omega)]⟩
  priority q hq := by
    obtain ⟨hq3, hfield⟩ := h.priority q hq
    exact bitField_of_extractLsb' hfield (Nat.lt_succ_of_le hq3)
  rep x hx := by
    cases x with
    | remove =>
      obtain ⟨hcode, hbytes⟩ := h.removed hx
      have hinterval : (p.drop 7).take 4 = wordBytes 0 := by
        have htake := congrArg (List.take 4) hbytes
        rwa [List.take_take] at htake
      have hremaining : (p.drop 11).take 2 = twoBytes 0 := by
        have hdrop := congrArg (List.drop 4) hbytes
        rwa [List.drop_take, List.drop_drop] at hdrop
      exact ⟨bitField_of_extractLsb' (v := 0) hcode (by decide),
        num32_of_wordBytes (rest := []) (le_refl 4) (hinterval.trans (List.append_nil _).symm),
        num16_of_twoBytes (rest := []) (le_refl 2) (by decide) (hremaining.trans (List.append_nil _).symm)⟩
    | set x =>
      obtain ⟨hinterval, hbytes, hrun⟩ := h.rep x hx
      have hword := num32_of_wordBytes (rest := []) (le_refl 4) (hbytes.trans (List.append_nil _).symm)
      rw [BitVec.toNat_ofNat, Nat.mod_eq_of_lt hinterval] at hword
      obtain ⟨n, run⟩ := x
      rcases hrun with ⟨k, hk, rfl, hcode, hcount⟩ | ⟨rfl, hcode, hcount⟩
      · exact ⟨bitField_of_extractLsb' (v := 1) hcode (by decide), hword,
          num16_of_twoBytes (rest := []) (le_refl 2) hk (hcount.trans (List.append_nil _).symm)⟩
      · exact ⟨bitField_of_extractLsb' (v := 2) hcode (by decide), hword,
          num16_of_twoBytes (n := 0) (rest := []) (le_refl 2) (by decide) hcount⟩
  keep k hk := bitField_of_getLsbD (h.keep k hk)
  miss m hm := bitField_of_getLsbD_iff ((h.miss m hm).trans beq_iff_eq.symm)
  group g hg := by
    obtain ⟨hg15, hfield⟩ := h.group g hg
    exact bitField_of_extractLsb' hfield (Nat.lt_succ_of_le hg15)

end Sys2Proof.Machine
end

section
/-! PROOF. Requests decode as encoded (R172, R181, R183, R185): each payload read back, then each layout of Table 11-1. -/

namespace Sys2Proof.Machine

/-! ### Payloads read back -/

/-- The items that `wf` admits are read back from the payload that spells them, which fits a frame (R172, R185). -/
def ReadBack {α : Type} (wf : α → Bool) (spell : α → List Byte) (read : List Byte → Payload α) : Prop :=
  ∀ a, wf a = true → read (spell a) = .fits a ∧ 1 ≤ (spell a).length ∧ (spell a).length ≤ 36

theorem readBack_pad : ReadBack (fun _ => true) (fun _ => [0]) decodePad := fun _ _ => ⟨rfl, by simp, by simp⟩

theorem readBack_byte : ReadBack (fitsBits 8) (fun n => [u8 n]) decodeByte := fun n hn => by
  refine ⟨?_, by simp, by simp⟩
  rw [decodeByte, u8_toNat (fitsBits_iff.mp hn)]

theorem readBack_word : ReadBack (fun _ => true) (fun v : Word => be32 v.toNat) decodeWord := fun v _ => by
  refine ⟨?_, by simp [be32], by simp [be32]⟩
  simp only [be32, decodeWord, num32_be32 v.isLt, BitVec.ofNat_toNat, BitVec.setWidth_eq]

theorem readBack_handle : ReadBack (fun _ => true) (fun h : HandleItems => [h.slot, h.gen]) decodeHandle :=
  fun _ _ => ⟨rfl, by simp, by simp⟩

theorem readBack_set : ReadBack (fun _ => true) (fun x : CauseSet => be16 x.toNat) decodeSet := fun x _ => by
  have hx := x.isLt
  refine ⟨?_, by simp [be16], by simp [be16]⟩
  have hclear : x.toNat / 2 ^ 11 = 0 := Nat.div_eq_of_lt hx
  simp only [be16, decodeSet, num16_be16 (hx.trans (by decide)), hclear, if_true, BitVec.ofNat_toNat, BitVec.setWidth_eq]

theorem readBack_settings : ReadBack (fun a => fitsBits 8 a.reserve && fitsBits 8 a.lowThreshold)
    (fun a => [u8 a.reserve, u8 a.lowThreshold]) decodeSettings := fun a ha => by
  obtain ⟨hreserve, hlow⟩ := Bool.and_eq_true_iff.mp ha
  refine ⟨?_, by simp, by simp⟩
  simp only [decodeSettings, u8_toNat (fitsBits_iff.mp hreserve), u8_toNat (fitsBits_iff.mp hlow)]

theorem readBack_divisor : ReadBack (fitsBits 16) be16 decodeDivisor := fun n hn => by
  refine ⟨?_, by simp [be16], by simp [be16]⟩
  simp only [be16, decodeDivisor, num16_be16 (fitsBits_iff.mp hn)]

theorem safeOf_safeCode (x : SafeLevel) : safeOf (safeCode x) = some x := by cases x <;> rfl
theorem edgesOf_edgesCode (x : EdgeSel) : edgesOf (edgesCode x) = some x := by cases x <;> rfl
theorem safeCode_lt (x : SafeLevel) : safeCode x < 3 := by cases x <;> decide
theorem edgesCode_lt (x : EdgeSel) : edgesCode x < 3 := by cases x <;> decide

theorem strayFault_of_clear {b : Byte} {lo : Nat} (h : b.toNat / 2 ^ lo = 0) (code : Byte) : strayFault code b lo = false :=
  if_pos h

/-- CHAN_CONFIG's configuration byte read with a known safe level (Table 11-1, notes/assumptions/6.md). -/
theorem decodeChanConfig_of_safe (c : Byte) {b : Byte} {safe : SafeLevel} (hsafe : bitField b 1 2 = safeCode safe) :
    decodeChanConfig [c, b] = if strayFault 0x41 b 4 then .unfit
      else .fits { channel := c.toNat, rest := levelOf (bitField b 0 1), safe := safe,
                   policy := if bitField b 3 1 = 0 then .strict else .merge } := by
  simp only [decodeChanConfig, hsafe, safeOf_safeCode]

theorem readBack_chanConfig : ReadBack (fun a => fitsBits 8 a.channel)
    (fun a => [u8 a.channel, u8 (levelBit a.rest + 2 * safeCode a.safe + 8 * bit (a.policy == .merge))]) decodeChanConfig :=
  fun a ha => by
  refine ⟨?_, by simp, by simp⟩
  have hrest : levelBit a.rest < 2 := by cases a.rest <;> decide
  have hsafe := safeCode_lt a.safe
  have hpolicy := bit_le_one (a.policy == .merge)
  have hnumber : (u8 (levelBit a.rest + 2 * safeCode a.safe + 8 * bit (a.policy == .merge))).toNat =
      levelBit a.rest + 2 * safeCode a.safe + 8 * bit (a.policy == .merge) := u8_toNat (by omega)
  have hrestField : bitField (u8 (levelBit a.rest + 2 * safeCode a.safe + 8 * bit (a.policy == .merge))) 0 1 =
      levelBit a.rest := by rw [bitField_u8 (by decide)]; omega
  have hpolicyField : bitField (u8 (levelBit a.rest + 2 * safeCode a.safe + 8 * bit (a.policy == .merge))) 3 1 =
      bit (a.policy == .merge) := by rw [bitField_u8 (by decide)]; omega
  have hlevel : levelOf (levelBit a.rest) = a.rest := by cases a.rest <;> rfl
  have hmode : (if bit (a.policy == .merge) = 0 then Policy.strict else .merge) = a.policy := by cases a.policy <;> rfl
  rw [decodeChanConfig_of_safe (safe := a.safe) _ (by rw [bitField_u8 (by decide)]; omega),
    strayFault_of_clear (by rw [hnumber]; omega), if_neg Bool.false_ne_true, hrestField, hpolicyField, hlevel, hmode,
    u8_toNat (fitsBits_iff.mp ha)]

/-- SENSE_CONFIG's flags byte read with known edges (Table 11-1, notes/assumptions/6.md). -/
theorem decodeSenseConfig_of_edges (n k g1 g0 : Byte) {f : Byte} {edges : EdgeSel} (hedges : bitField f 1 2 = edgesCode edges) :
    decodeSenseConfig [n, f, k, g1, g0] = if strayFault 0x61 f 3 then .unfit
      else .fits { input := n.toNat, enable := boolOf (bitField f 0 1), edges := edges, prescale := k.toNat,
                   gap := num16 g1 g0 } := by
  simp only [decodeSenseConfig, hedges, edgesOf_edgesCode]

theorem readBack_senseConfig : ReadBack (fun a => fitsBits 8 a.input && fitsBits 8 a.prescale && fitsBits 16 a.gap)
    (fun a => [u8 a.input, u8 (bit a.enable + 2 * edgesCode a.edges), u8 a.prescale] ++ be16 a.gap) decodeSenseConfig :=
  fun a ha => by
  simp only [Bool.and_eq_true, fitsBits_iff] at ha
  obtain ⟨⟨hinput, hprescale⟩, hgap⟩ := ha
  refine ⟨?_, by simp [be16], by simp [be16]⟩
  have henable := bit_le_one a.enable
  have hedges := edgesCode_lt a.edges
  have hnumber : (u8 (bit a.enable + 2 * edgesCode a.edges)).toNat = bit a.enable + 2 * edgesCode a.edges :=
    u8_toNat (by omega)
  have henableField : bitField (u8 (bit a.enable + 2 * edgesCode a.edges)) 0 1 = bit a.enable := by
    rw [bitField_u8 (by decide)]; omega
  simp only [be16, List.cons_append, List.nil_append]
  rw [decodeSenseConfig_of_edges (edges := a.edges) _ _ _ _ (by rw [bitField_u8 (by decide)]; omega),
    strayFault_of_clear (by rw [hnumber]; omega), if_neg Bool.false_ne_true, henableField, boolOf_bit, num16_be16 hgap,
    u8_toNat hinput, u8_toNat hprescale]

theorem readBack_arm : ReadBack (·.wf) encodeArm decodeArm := fun a ha => by
  obtain ⟨⟨hdirection, hchannel, -⟩, -, hgroup⟩ := ArmItems.wf_iff.mp ha
  have hspelled := encodeArm_spelled ha
  refine ⟨decodeArm_of_spelled hspelled hdirection hchannel fun g hg => (hgroup g hg).1, ?_, ?_⟩
  all_goals
    rw [hspelled.length]
    decide

/-- A step image is as long as its items make it (Table 11-3). -/
theorem encodeStep_length {x : StepItems} (h : x.wf = true) : (encodeStep x).length = x.imageLength := by
  obtain ⟨-, -, hwork, hrep⟩ := StepItems.wf_iff.mp h
  obtain ⟨offset, i⟩ := x
  have hworkLength : (encodeStepWork i).length = match i.kind with
      | .pulse => 2
      | .burst => 4
      | _ => 0 := by
    cases hk : i.kind with
    | burst => cases hb : i.burst <;> simp [encodeStepWork, hk, hb, be16]
    | _ => simp [encodeStepWork, hk, be16]
  have hrepLength : (encodeStepRepeat i.rep).length = match i.rep with
      | none => 0
      | some r =>
        match r.run with
        | some (.counted _) => 6
        | _ => 4 := by
    rcases hr : i.rep with _ | ⟨n, _ | _ | _⟩
    · rfl
    · cases (hrep _ hr).2
    · rfl
    · rfl
  simp only [encodeStep, List.length_append, hworkLength, hrepLength, StepItems.imageLength]
  rfl

theorem readBack_bindWrite : ReadBack (fun a => fitsBits 8 a.binding && fitsBits 8 a.input && stepsWf a.steps)
    (fun a => u8 a.binding :: u8 a.input :: a.steps.flatMap encodeStep) decodeBindWrite := fun a ha => by
  simp only [Bool.and_eq_true, fitsBits_iff, stepsWf, decide_eq_true_iff, List.all_eq_true] at ha
  obtain ⟨⟨hbinding, hinput⟩, ⟨hcount, hsteps⟩, hsum⟩ := ha
  have hlength : (a.steps.flatMap encodeStep).length = (a.steps.map (·.imageLength)).sum := by
    rw [List.length_flatMap]
    exact congrArg List.sum (List.map_congr_left fun x hx => encodeStep_length (hsteps x hx))
  refine ⟨?_, by simp, by simp only [List.length_cons, hlength]; omega⟩
  simp only [decodeBindWrite, takeSteps_flatMap_encodeStep hcount hsteps, u8_toNat hbinding, u8_toNat hinput]

theorem readBack_bindDisable : ReadBack (fun a => fitsBits 8 a.binding) (fun a => [u8 a.binding, u8 (bit a.retire)])
    decodeBindDisable := fun a ha => by
  refine ⟨?_, by simp, by simp⟩
  have hbinding := u8_toNat (fitsBits_iff.mp ha)
  obtain ⟨binding, retire⟩ := a
  cases retire <;> simp only [decodeBindDisable, hbinding] <;> rfl

theorem readBack_collect : ReadBack (fun _ => true) (fun h : Option HandleItems => match h with
    | none => [0]
    | some h => [h.slot, h.gen]) decodeCollect := fun h _ => by
  cases h with
  | none => exact ⟨rfl, by decide, by decide⟩
  | some h => exact ⟨rfl, by simp, by simp⟩

/-! ### Requests read back -/

/-- A request is what its code and payload bytes decode to, and its payload fits a frame (R172). -/
def DecodesTo (x : Byte × Byte × List Byte) (i : Instr) : Prop :=
  decodeRequest x.1 x.2.1 x.2.2 = i ∧ 1 ≤ x.2.2.length ∧ x.2.2.length ≤ 36

/-- A request whose payload is read back decodes as it was encoded. -/
theorem decodesTo_of_readBack {α : Type} {wf : α → Bool} {spell : α → List Byte} {read : List Byte → Payload α}
    (hread : ReadBack wf spell read) {code tag : Byte} {request : Payload α → Instr}
    (hdecode : ∀ bytes, decodeRequest code tag bytes = request (read bytes)) {p : Payload α} (hp : p.wf wf = true)
    {x : Byte × Byte × List Byte} (hx : (encodeWith spell p).map (code, tag, ·) = some x) : DecodesTo x (request p) := by
  cases p with
  | unfit => cases hx
  | fits a =>
    cases hx
    obtain ⟨hback, hlength⟩ := hread a hp
    exact ⟨(hdecode _).trans (congrArg request hback), hlength⟩

theorem Payload.wf_true {α : Type} (p : Payload α) : Payload.wf (fun _ => true) p = true := by cases p <;> rfl

theorem decodesTo_amend {tag : Byte} {p : Payload AmendItems} (hp : Instr.wf (.amend tag p) = true) {x : Byte × Byte × List Byte}
    (hx : encodeRequest (.amend tag p) = some x) : DecodesTo x (.amend tag p) := by
  rcases p with ⟨h, b | _⟩ | _
  case fits.fits =>
    cases hx
    refine ⟨?_, by simp, ?_⟩
    · have hdecode : decodeRequest 0x52 tag (h.slot :: h.gen :: encodeAmendBody b) =
          .amend tag (.fits { handle := h, body := decodeAmendBody (encodeAmendBody b) }) := rfl
      exact hdecode.trans (by rw [decodeAmendBody_encodeAmendBody hp])
    · simp [encodeAmendBody, be32, be16]
  all_goals cases hx

/-- Every well-formed request that a frame can spell is read back as itself (R181). -/
theorem decodesTo_of_encodeRequest {i : Instr} (hwf : i.wf = true) {x : Byte × Byte × List Byte} (hx : encodeRequest i = some x) :
    DecodesTo x i := by
  cases i with
  | settingsRead t p => exact decodesTo_of_readBack readBack_pad (fun _ => rfl) (Payload.wf_true p) hx
  | startT t p => exact decodesTo_of_readBack readBack_pad (fun _ => rfl) (Payload.wf_true p) hx
  | stopT t p => exact decodesTo_of_readBack readBack_pad (fun _ => rfl) (Payload.wf_true p) hx
  | readT t p => exact decodesTo_of_readBack readBack_pad (fun _ => rfl) (Payload.wf_true p) hx
  | cancelHome t p => exact decodesTo_of_readBack readBack_pad (fun _ => rfl) (Payload.wf_true p) hx
  | readP t p => exact decodesTo_of_readBack readBack_pad (fun _ => rfl) (Payload.wf_true p) hx
  | nextDue t p => exact decodesTo_of_readBack readBack_pad (fun _ => rfl) (Payload.wf_true p) hx
  | tableClear t p => exact decodesTo_of_readBack readBack_pad (fun _ => rfl) (Payload.wf_true p) hx
  | quiesce t p => exact decodesTo_of_readBack readBack_pad (fun _ => rfl) (Payload.wf_true p) hx
  | resume t p => exact decodesTo_of_readBack readBack_pad (fun _ => rfl) (Payload.wf_true p) hx
  | quiesceRead t p => exact decodesTo_of_readBack readBack_pad (fun _ => rfl) (Payload.wf_true p) hx
  | readAttention t p => exact decodesTo_of_readBack readBack_pad (fun _ => rfl) (Payload.wf_true p) hx
  | ident t p => exact decodesTo_of_readBack readBack_pad (fun _ => rfl) (Payload.wf_true p) hx
  | softReset t p => exact decodesTo_of_readBack readBack_pad (fun _ => rfl) (Payload.wf_true p) hx
  | chanRead t p => exact decodesTo_of_readBack readBack_byte (fun _ => rfl) hwf hx
  | goGroup t p => exact decodesTo_of_readBack readBack_byte (fun _ => rfl) hwf hx
  | retireGroup t p => exact decodesTo_of_readBack readBack_byte (fun _ => rfl) hwf hx
  | scan t p => exact decodesTo_of_readBack readBack_byte (fun _ => rfl) hwf hx
  | readStamp t p => exact decodesTo_of_readBack readBack_byte (fun _ => rfl) hwf hx
  | bindEnable t p => exact decodesTo_of_readBack readBack_byte (fun _ => rfl) hwf hx
  | bindRead t p => exact decodesTo_of_readBack readBack_byte (fun _ => rfl) hwf hx
  | setT t p => exact decodesTo_of_readBack readBack_word (fun _ => rfl) (Payload.wf_true p) hx
  | homeP t p => exact decodesTo_of_readBack readBack_word (fun _ => rfl) (Payload.wf_true p) hx
  | setP t p => exact decodesTo_of_readBack readBack_word (fun _ => rfl) (Payload.wf_true p) hx
  | retire t p => exact decodesTo_of_readBack readBack_handle (fun _ => rfl) (Payload.wf_true p) hx
  | peek t p => exact decodesTo_of_readBack readBack_handle (fun _ => rfl) (Payload.wf_true p) hx
  | ackAttention t p => exact decodesTo_of_readBack readBack_set (fun _ => rfl) (Payload.wf_true p) hx
  | setMask t p => exact decodesTo_of_readBack readBack_set (fun _ => rfl) (Payload.wf_true p) hx
  | settings t p => exact decodesTo_of_readBack readBack_settings (fun _ => rfl) hwf hx
  | setGrain t p => exact decodesTo_of_readBack readBack_divisor (fun _ => rfl) hwf hx
  | chanConfig t p => exact decodesTo_of_readBack readBack_chanConfig (fun _ => rfl) hwf hx
  | senseConfig t p => exact decodesTo_of_readBack readBack_senseConfig (fun _ => rfl) hwf hx
  | arm t p => exact decodesTo_of_readBack readBack_arm (fun _ => rfl) hwf hx
  | bindWrite t p => exact decodesTo_of_readBack readBack_bindWrite (fun _ => rfl) hwf hx
  | bindDisable t p => exact decodesTo_of_readBack readBack_bindDisable (fun _ => rfl) hwf hx
  | collect t p => exact decodesTo_of_readBack readBack_collect (fun _ => rfl) (Payload.wf_true p) hx
  | amend t p => exact decodesTo_amend hwf hx
  | _ => cases hx

end Sys2Proof.Machine
end

section
/-! PROOF. The layouts of Table 11-1 (R183, R185): what each payload's bytes decode to, and a payload of another length. -/

namespace Sys2Proof.Machine

/-! ### Payloads of another length -/

section
variable {p : List Byte}

theorem decodePad_eq (p : List Byte) : decodePad p = if p.length = 1 then .fits () else .unfit := by
  unfold decodePad
  split
  · rfl
  · next h =>
    refine (if_neg fun hlength => ?_).symm
    obtain ⟨b, rfl⟩ := List.length_eq_one_iff.mp hlength
    exact h b rfl

theorem decodeByte_of_length_ne (h : p.length ≠ 1) : decodeByte p = .unfit := by
  unfold decodeByte
  split
  · exact absurd rfl h
  · rfl

theorem decodeWord_of_length_ne (h : p.length ≠ 4) : decodeWord p = .unfit := by
  unfold decodeWord
  split
  · exact absurd rfl h
  · rfl

theorem decodeHandle_of_length_ne (h : p.length ≠ 2) : decodeHandle p = .unfit := by
  unfold decodeHandle
  split
  · exact absurd rfl h
  · rfl

theorem decodeCollect_of_length_ne (h1 : p.length ≠ 1) (h2 : p.length ≠ 2) : decodeCollect p = .unfit := by
  unfold decodeCollect
  split
  · exact absurd rfl h1
  · exact absurd rfl h2
  · rfl

theorem decodeSet_of_length_ne (h : p.length ≠ 2) : decodeSet p = .unfit := by
  unfold decodeSet
  split
  · exact absurd rfl h
  · rfl

theorem decodeSettings_of_length_ne (h : p.length ≠ 2) : decodeSettings p = .unfit := by
  unfold decodeSettings
  split
  · exact absurd rfl h
  · rfl

theorem decodeDivisor_of_length_ne (h : p.length ≠ 2) : decodeDivisor p = .unfit := by
  unfold decodeDivisor
  split
  · exact absurd rfl h
  · rfl

theorem decodeChanConfig_of_length_ne (h : p.length ≠ 2) : decodeChanConfig p = .unfit := by
  unfold decodeChanConfig
  split
  · exact absurd rfl h
  · rfl

theorem decodeSenseConfig_of_length_ne (h : p.length ≠ 5) : decodeSenseConfig p = .unfit := by
  unfold decodeSenseConfig
  split
  · exact absurd rfl h
  · rfl

theorem decodeBindDisable_of_length_ne (h : p.length ≠ 2) : decodeBindDisable p = .unfit := by
  unfold decodeBindDisable
  split
  · exact absurd rfl h
  · rfl

theorem decodeAmend_of_length_lt (h : p.length < 2) : decodeAmend p = .unfit := by
  unfold decodeAmend
  split
  · simp at h
  · rfl

theorem decodeBindWrite_of_length_lt (h : p.length < 2) : decodeBindWrite p = .unfit := by
  unfold decodeBindWrite
  split
  · simp at h
  · rfl

end

/-! ### The bytes of each layout -/

theorem decodeWord_wordBytes (v : Word) : decodeWord (wordBytes v) = .fits v := by
  rw [← beWord_eq_wordBytes]
  exact (readBack_word v rfl).1

/-- A cause set's two bytes: the upper five bits are 0, the others the set (R183). -/
theorem decodeSet_eq (a b : Byte) : decodeSet [a, b] =
    if a.extractLsb' 3 5 = 0 then .fits ((a ++ b).extractLsb' 0 11) else .unfit := by
  have ha := a.isLt
  have hb := b.isLt
  have hclear : num16 a b / 2 ^ 11 = 0 ↔ a.extractLsb' 3 5 = 0 := by
    rw [← BitVec.toNat_inj, BitVec.extractLsb'_toNat, Nat.shiftRight_eq_div_pow, num16]
    simp
    omega
  have hset : BitVec.ofNat 11 (num16 a b) = (a ++ b).extractLsb' 0 11 := by
    have happend : (a ++ b).toNat = num16 a b := by
      rw [BitVec.toNat_append, ← Nat.shiftLeft_add_eq_or_of_lt hb, Nat.shiftLeft_eq, num16]
    refine BitVec.eq_of_toNat_eq ?_
    rw [BitVec.extractLsb'_toNat, happend, BitVec.toNat_ofNat, Nat.shiftRight_zero]
  rw [decodeSet, hset]
  exact if_congr hclear rfl rfl

theorem decodeDivisor_twoBytes {n : Nat} (h : n ≤ 65535) : decodeDivisor (twoBytes n) = .fits n :=
  (readBack_divisor n (fitsBits_iff.mpr (by omega))).1

/-- A field of two bits that is 3 names nothing (R185). -/
theorem bitField_eq_three {b : Byte} {lo : Nat} (h : b.extractLsb' lo 2 = 3) : bitField b lo 2 = 3 := by
  rw [bitField_eq_extractLsb', h]
  rfl

theorem boolOf_bitField (b : Byte) (k : Nat) : boolOf (bitField b k 1) = b.getLsbD k := by rw [bitField_eq_bit, boolOf_bit]

/-- The upper bits of a byte are clear where their field is 0. -/
theorem toNat_div_eq_zero {b : Byte} {lo width : Nat} (hwidth : lo + width = 8) (h : b.extractLsb' lo width = 0) :
    b.toNat / 2 ^ lo = 0 := by
  have hfield := congrArg BitVec.toNat h
  rw [BitVec.extractLsb'_toNat, Nat.shiftRight_eq_div_pow] at hfield
  have hlt : b.toNat / 2 ^ lo < 2 ^ width := by
    rw [Nat.div_lt_iff_lt_mul (Nat.two_pow_pos lo), ← Nat.pow_add, Nat.add_comm, hwidth]
    exact b.isLt
  rwa [Nat.mod_eq_of_lt hlt] at hfield

/-- CHAN_CONFIG's configuration byte by its bits (Table 11-1). -/
theorem decodeChanConfig_of_field (c : Byte) {b : Byte} {safe : SafeLevel} (hsafe : b.extractLsb' 1 2 = (match safe with
    | .rest => 0
    | .active => 1
    | .keep => 2)) : decodeChanConfig [c, b] = if strayFault 0x41 b 4 then .unfit
      else .fits { channel := c.toNat, rest := if b.getLsbD 0 = true then .high else .low, safe := safe
                   policy := if b.getLsbD 3 = true then .merge else .strict } := by
  have hfield : bitField b 1 2 = safeCode safe :=
    bitField_of_extractLsb' (hsafe.trans (by cases safe <;> rfl)) ((safeCode_lt safe).trans (by decide))
  have hrest : levelOf (bitField b 0 1) = if b.getLsbD 0 = true then .high else .low := by
    rw [bitField_eq_bit]
    cases b.getLsbD 0 <;> rfl
  have hpolicy : (if bitField b 3 1 = 0 then Policy.strict else .merge) = if b.getLsbD 3 = true then .merge else .strict := by
    rw [bitField_eq_bit]
    cases b.getLsbD 3 <;> rfl
  rw [decodeChanConfig_of_safe c hfield, hrest, hpolicy]

theorem decodeChanConfig_of_three (c : Byte) {b : Byte} (h : b.extractLsb' 1 2 = 3) : decodeChanConfig [c, b] = .unfit := by
  simp only [decodeChanConfig, bitField_eq_three h, safeOf]

/-- SENSE_CONFIG's flags byte by its bits (Table 11-1). -/
theorem decodeSenseConfig_of_field (n k : Byte) {f : Byte} {gap : Nat} (hgap : gap ≤ 65535) {edges : EdgeSel}
    (hedges : f.extractLsb' 1 2 = (match edges with
      | .rise => 0
      | .fall => 1
      | .both => 2)) : decodeSenseConfig ([n, f, k] ++ twoBytes gap) = if strayFault 0x61 f 3 then .unfit
      else .fits { input := n.toNat, enable := f.getLsbD 0, edges := edges, prescale := k.toNat, gap := gap } := by
  have hfield : bitField f 1 2 = edgesCode edges :=
    bitField_of_extractLsb' (hedges.trans (by cases edges <;> rfl)) ((edgesCode_lt edges).trans (by decide))
  have hnumber : num16 (BitVec.ofNat 8 (gap / 256)) (BitVec.ofNat 8 gap) = gap := num16_be16 (by omega)
  rw [twoBytes, List.cons_append, List.cons_append, List.cons_append, List.nil_append, decodeSenseConfig_of_edges _ _ _ _ hfield,
    boolOf_bitField, hnumber]

theorem decodeSenseConfig_of_three (n k g1 g0 : Byte) {f : Byte} (h : f.extractLsb' 1 2 = 3) :
    decodeSenseConfig [n, f, k, g1, g0] = .unfit := by
  simp only [decodeSenseConfig, bitField_eq_three h, edgesOf]

/-- A choice that is the second where a flag is clear, and one of the two at any rate. -/
theorem request_of_stray {α : Type} {request : Payload α → Instr} {flag : Bool} {a : α} {x : Payload α}
    (hx : x = if flag then .unfit else .fits a) :
    (flag = false → request x = request (.fits a)) ∧ (request x = request (.fits a) ∨ request x = request .unfit) := by
  subst hx
  cases flag with
  | false => exact ⟨fun _ => rfl, .inl rfl⟩
  | true => exact ⟨nofun, .inr rfl⟩

/-- The bytes of AMEND after its handle, by their selection (R183, R185). -/
theorem decodeAmendBody_laid (sel : BitVec 16) (bytes : List Byte) (b : AmendBody) :
    (AmendLaid b sel bytes → decodeAmendBody (sel.extractLsb' 8 8 :: sel.extractLsb' 0 8 :: bytes) = .fits b)
    ∧ (sel.extractLsb' 13 3 ≠ 0 → decodeAmendBody (sel.extractLsb' 8 8 :: sel.extractLsb' 0 8 :: bytes) = .unfit) := by
  constructor
  · intro h
    refine decodeAmendBody_of_spelled ?_
    rw [num16_extractLsb']
    exact amendSpelled_of_laid h
  · intro h
    refine decodeAmendBody_of_stray bytes ?_
    rw [num16_extractLsb']
    exact mt (selection_clear_iff sel).mpr h

theorem decodeBindWrite_eq (b n : Byte) (images : List Byte) : decodeBindWrite (b :: n :: images) =
    match takeSteps 4 images with
    | some steps => .fits { binding := b.toNat, input := n.toNat, steps := steps }
    | none => .unfit := by
  cases h : takeSteps 4 images <;> simp only [decodeBindWrite, h]

/-- Every payload is read by its layout (Table 11-1, R181, R183, R185). -/
theorem payloadsRead (tag : Byte) (p : List Byte) : PayloadsRead tag p where
  pad := by
    intro x hx
    rw [← decodePad_eq]
    simp only [List.mem_cons, List.not_mem_nil, or_false] at hx
    rcases hx with rfl | rfl | rfl | rfl | rfl | rfl | rfl | rfl | rfl | rfl | rfl | rfl | rfl | rfl <;> rfl
  number := by
    intro x hx
    have hread : decodeRequest x.1 tag p = x.2 tag (decodeByte p) := by
      simp only [List.mem_cons, List.not_mem_nil, or_false] at hx
      rcases hx with rfl | rfl | rfl | rfl | rfl | rfl | rfl <;> rfl
    exact ⟨fun b hb => by rw [hread, hb]; rfl, fun h => by rw [hread, decodeByte_of_length_ne h]⟩
  value := by
    intro x hx
    have hread : decodeRequest x.1 tag p = x.2 tag (decodeWord p) := by
      simp only [List.mem_cons, List.not_mem_nil, or_false] at hx
      rcases hx with rfl | rfl | rfl <;> rfl
    exact ⟨fun v hv => by rw [hread, hv, decodeWord_wordBytes], fun h => by rw [hread, decodeWord_of_length_ne h]⟩
  handle := by
    intro x hx
    have hread : decodeRequest x.1 tag p = x.2 tag (decodeHandle p) := by
      simp only [List.mem_cons, List.not_mem_nil, or_false] at hx
      rcases hx with rfl | rfl <;> rfl
    exact ⟨fun i g hp => by rw [hread, hp]; rfl, fun h => by rw [hread, decodeHandle_of_length_ne h]⟩
  collect := by
    have hread : decodeRequest 0x91 tag p = .collect tag (decodeCollect p) := rfl
    refine ⟨fun h => ?_, fun i g hp => by rw [hread, hp]; rfl, fun h1 h2 => by rw [hread, decodeCollect_of_length_ne h1 h2]⟩
    obtain ⟨b, rfl⟩ := List.length_eq_one_iff.mp h
    rfl
  causes := by
    intro x hx
    have hread : decodeRequest x.1 tag p = x.2 tag (decodeSet p) := by
      simp only [List.mem_cons, List.not_mem_nil, or_false] at hx
      rcases hx with rfl | rfl <;> rfl
    exact ⟨fun a b hp => by rw [hread, hp, decodeSet_eq], fun h => by rw [hread, decodeSet_of_length_ne h]⟩
  settings := by
    have hread : decodeRequest 0x11 tag p = .settings tag (decodeSettings p) := rfl
    exact ⟨fun r t hp => by rw [hread, hp]; rfl, fun h => by rw [hread, decodeSettings_of_length_ne h]⟩
  divisor := by
    have hread : decodeRequest 0x21 tag p = .setGrain tag (decodeDivisor p) := rfl
    exact ⟨fun n hn hp => by rw [hread, hp, decodeDivisor_twoBytes hn],
      fun h => by rw [hread, decodeDivisor_of_length_ne h]⟩
  chanConfig := by
    have hread : decodeRequest 0x41 tag p = .chanConfig tag (decodeChanConfig p) := rfl
    refine ⟨fun c b hp => ?_, fun h => by rw [hread, decodeChanConfig_of_length_ne h]⟩
    rw [hread, hp]
    refine ⟨fun safe hsafe => ?_, fun h => by rw [decodeChanConfig_of_three c h]⟩
    obtain ⟨hclear, heither⟩ := request_of_stray (request := Instr.chanConfig tag) (decodeChanConfig_of_field c hsafe)
    exact ⟨fun h => hclear (strayFault_of_clear (toNat_div_eq_zero rfl h) _), heither⟩
  senseConfig := by
    have hread : decodeRequest 0x61 tag p = .senseConfig tag (decodeSenseConfig p) := rfl
    refine ⟨fun n f k gap hgap hp => ?_, fun h => by rw [hread, decodeSenseConfig_of_length_ne h]⟩
    rw [hread, hp]
    refine ⟨fun edges hedges => ?_, fun h => congrArg (Instr.senseConfig tag) (decodeSenseConfig_of_three n k _ _ h)⟩
    obtain ⟨hclear, heither⟩ := request_of_stray (request := Instr.senseConfig tag)
      (decodeSenseConfig_of_field n k hgap hedges)
    exact ⟨fun h => hclear (strayFault_of_clear (toNat_div_eq_zero rfl h) _), heither⟩
  arm := by
    have hread : decodeRequest 0x51 tag p = .arm tag (decodeArm p) := rfl
    refine ⟨fun a hmeets hlaid => ?_, fun h => by rw [hread, decodeArm_of_length_ne h]⟩
    rw [hread, decodeArm_of_spelled (armSpelled_of_laid hmeets hlaid) (directionWf_of_meets hmeets.items)
      (channelWf_of_meets hmeets.items) fun g hg => (hmeets.group g hg).1]
  amend := by
    have hread : decodeRequest 0x52 tag p = .amend tag (decodeAmend p) := rfl
    refine ⟨fun i g rest hp => ⟨decodeAmendBody rest, by rw [hread, hp]; rfl, fun b sel bytes hrest => ?_,
      decodeAmendBody_of_length_ne⟩, fun h => by rw [hread, decodeAmend_of_length_lt h]⟩
    rw [hrest]
    exact decodeAmendBody_laid sel bytes b
  bindWrite := by
    have hread : decodeRequest 0x71 tag p = .bindWrite tag (decodeBindWrite p) := rfl
    refine ⟨fun b n images hp => ?_, fun h => by rw [hread, decodeBindWrite_of_length_lt h]⟩
    rw [hread, hp]
    exact congrArg (Instr.bindWrite tag) (decodeBindWrite_eq b n images)
  bindDisable := by
    have hread : decodeRequest 0x73 tag p = .bindDisable tag (decodeBindDisable p) := rfl
    exact ⟨fun b o hp => by rw [hread, hp]; rfl, fun h => by rw [hread, decodeBindDisable_of_length_ne h]⟩

/-- Settles O15: every request read back from its own bytes, and every layout by the lemma of its payload. -/
theorem requestsDecodeAsEncoded : Obligations.RequestsDecodeAsEncoded :=
  ⟨fun _ _ _ _ hwf hencode => decodesTo_of_encodeRequest hwf hencode, payloadsRead⟩

end Sys2Proof.Machine
end
